-- ==== Sys2Proof/Word.lean ====
section
/-! DEFINITION. The word types of the decoder core (R8, R10): bytes, samples, and the 32-bit indices, lengths and
thresholds. -/

namespace Sys2Proof

/-- A byte, unsigned (R10). -/
abbrev Byte := BitVec 8

/-- A 16-bit two's-complement sample word (R61, R91). -/
abbrev Sample := BitVec 16

/-- A sample index, cycle length or threshold: `W_IDX = W_LEN = 32` bits (R8). -/
abbrev Word := BitVec 32

/-- A 4-bit code: an FSM state (R110) or a fault code (R112). -/
abbrev Code := BitVec 4

/-- Printed text, as a list of characters (R11 `print`). -/
abbrev Text := List Char

end Sys2Proof
end

