-- ==== Sys2Proof/Config.lean ====
section
/-! DEFINITION. The named protocol constants of R9, the decided parameters of R8, and the OPEN parameters of R8 as
constants with no body: nothing can be proved of their values (log 9). -/

namespace Sys2Proof
namespace Config

/-- `SYNC_BYTE` (R9). -/
def syncByte : Byte := 0x3C
/-- `TYPE_NAME` (R9, R97). -/
def typeName : Byte := 0x00
/-- `TYPE_DATA` (R9, R97). -/
def typeData : Byte := 0x01
/-- `TYPE_EOF` (R9, R97). -/
def typeEof : Byte := 0xFF
/-- `NAME_BLOCK_LEN` (R9, R98). -/
def nameBlockLen : Byte := 15
/-- `EOF_BLOCK_LEN` (R9, R98). -/
def eofBlockLen : Byte := 0
/-- `NAME_CHARS` (R9, R36, R99). -/
abbrev nameChars : Nat := 8
/-- `FN_PREFIX` (R9, R105). -/
def fnPrefix : Byte := 0xFF
/-- `OP_BASE` (R9). -/
def opBase : Nat := 0x80
/-- `FN_BASE` (R9). -/
def fnBase : Nat := 0x80
/-- `OP_END`, exclusive (R8, conflict C2). -/
def opEnd : Nat := 0xE0
/-- `LINE_NUM_WIDTH` (R8, R109). -/
def lineNumWidth : Nat := 5
/-- Reset value of `ONE_LO` (R24). -/
def oneLoReset : Word := 18
/-- Reset value of `ONE_HI` (R24). -/
def oneHiReset : Word := 31
/-- Reset value of `ZERO_LO` (R24). -/
def zeroLoReset : Word := 31
/-- The encoding of the source's infinity, and the reset value of `ZERO_HI` (R24, R155). -/
def infinity : Word := 0xFFFFFFFF
/-- The keyword of token 0x84, the one entry the source gives (R66). -/
def elseToken : Text := ['E', 'L', 'S', 'E']

/-- `THRESH_MAX` less 31 (R8, OPEN). DEDUCED: R25 says the reset configuration is always legal, so the bound is at
least the largest bounded reset value, 31 (log 10). -/
opaque threshMaxAboveReset : Nat
/-- `SEQ_CAP` less 1 (R8, OPEN; D18 `SEQ_CAP >= 1`). -/
opaque seqCapAboveOne : Nat
/-- `LINE_MAX` (R8, OPEN). -/
opaque lineMax : Nat
/-- `FN_COUNT` (R8, OPEN; `0 <= FN_COUNT <= 128`). -/
opaque fnCount : Fin 129
/-- `OP_TOKENS` but for entry 0x84 (R8, R66, OPEN). -/
opaque opTokenTable : Byte → Text
/-- `FN_TOKENS` (R8, R66, OPEN). -/
opaque fnTokenTable : Byte → Text
/-- `SAMPLE_RATE` (R8, OPEN): no rule reads it (R355). -/
opaque sampleRate : Nat
/-- The exit status of a failed run less 1, by fault code: the source says only "non-zero" (R307, I9). -/
opaque failExitAboveOne : Code → Nat

end Config

/-- The open parameters of R8 that a rule reads, with the bounds the spec puts on them. The meanings run on
`Config.params`; the operations take any. -/
structure Params where
  /-- `THRESH_MAX` (R25). -/
  threshMax : Nat
  /-- `SEQ_CAP` (R40). -/
  seqCap : Nat
  /-- `LINE_MAX` (R236). -/
  lineMax : Nat
  /-- `FN_COUNT` (R107). -/
  fnCount : Nat
  /-- `OP_TOKENS` (R106). -/
  opTokens : Byte → Text
  /-- `FN_TOKENS` (R107). -/
  fnTokens : Byte → Text
  /-- D18: `SEQ_CAP >= 1`. -/
  seqCap_pos : 1 ≤ seqCap
  /-- R8: `FN_COUNT <= 128`. -/
  fnCount_le : fnCount ≤ 128
  /-- R25: the reset configuration is always legal (log 10). -/
  threshMax_ge : 31 ≤ threshMax
  /-- R66: `OP_TOKENS[0x84] = "ELSE"`. -/
  opTokens_else : opTokens 0x84 = Config.elseToken

/-- The parameters of this machine: every OPEN value a constant with no body, `OP_TOKENS[0x84]` the source's. -/
def Config.params : Params where
  threshMax := 31 + Config.threshMaxAboveReset
  seqCap := Config.seqCapAboveOne + 1
  lineMax := Config.lineMax
  fnCount := Config.fnCount.val
  opTokens := fun b => if b = 0x84 then Config.elseToken else Config.opTokenTable b
  fnTokens := Config.fnTokenTable
  seqCap_pos := Nat.le_add_left 1 _
  fnCount_le := Nat.lt_succ_iff.mp Config.fnCount.isLt
  threshMax_ge := Nat.le_add_right 31 _
  opTokens_else := if_pos rfl

end Sys2Proof
end

