-- ==== Sys2Proof/Syntax.lean ====
section
/-! DEFINITION. The operations of the opcode table, one constructor per row of `opcode_table.json`, in its order, and
the unit of presentation: a format of the table with the bytes of one operation (R90, R114). -/

namespace Sys2Proof

/-- The formats of the opcode table's rows. A code is met only in its own format, so the codes of two formats may be
equal. The tape-byte format is split by the FSM state (and block type) the row names, which decides what the byte
means (R177 to R187); the byte after 0xFF is a format of its own (R105). -/
inductive Fmt where
  /-- Port command with its operands beside it (R114). -/
  | portOp
  /-- Previous and current sample (R131). -/
  | samplePair
  /-- Classified-bit code, 2 bits (R93). -/
  | classifiedBit
  /-- Internal operation of the block: no code in the spec (log 2). -/
  | internal
  /-- FSM state code, 4 bits, with the completed byte beside it (R110, R173). -/
  | fsmState
  /-- Tape byte matched in NeedSyncByte (R175). -/
  | syncByte
  /-- Tape byte in NeedBlockType (R97). -/
  | typeByte
  /-- Tape byte in NeedLength with `BTYPE = Name` (R98). -/
  | lenNameByte
  /-- Tape byte in NeedLength with `BTYPE = EndOfFile` (R98). -/
  | lenEofByte
  /-- Tape byte in NeedLength with `BTYPE = Data` (R98). -/
  | lenDataByte
  /-- Tape byte in NeedCksum (R100). -/
  | cksumByte
  /-- Tape byte in NeedLeadByte (R101). -/
  | leadByte
  /-- `OUT_PENDING` code, 2 bits (R41). -/
  | outPending
  /-- `FAULT_CODE` or `HFAULT_CODE` code, 4 bits (R112). -/
  | faultCode
  /-- Host routine: no code in the spec (log 2). -/
  | hostRoutine
  /-- One content byte of the Detokenizer (R104). -/
  | detokByte
  /-- The content byte after 0xFF (R105, R107). -/
  | detokFn
  deriving DecidableEq, Repr

/-- One presented unit: the format it is presented in and its bytes, operands beside the code. -/
structure Item where
  fmt : Fmt
  bytes : List Byte
  deriving DecidableEq, Repr

/-- Why a unit is no operation of the spec. -/
inductive Reject where
  /-- The unit has no byte to hold a code. -/
  | noCode
  /-- The code byte holds no code of the unit's format. -/
  | noSuchCode
  /-- The operand bytes are fewer than the code asks for. -/
  | operandMissing
  /-- An operand lies outside the values the row's encoding admits. -/
  | operandOutOfClass
  deriving DecidableEq, Repr

/-- The operations of the opcode table. -/
inductive Instr where
  /-- NOP (R114). -/
  | nop
  /-- SAMPLE_PUSH `s` (R130). -/
  | samplePush (s : Sample)
  /-- EV_ACK (R311). -/
  | evAck
  /-- CFG_WRITE `reg`, `v` (R342). -/
  | cfgWrite (reg : BitVec 2) (v : Word)
  /-- RESET_ASSERT (R340). -/
  | resetAssert
  /-- RESET_DEASSERT (R341). -/
  | resetDeassert
  /-- PORT_RESERVED_6 (R114). -/
  | portReserved6
  /-- PORT_RESERVED_7 (R114). -/
  | portReserved7
  /-- CROSSING: previous and current sample (R131, R132). -/
  | crossing (prev cur : Sample)
  /-- CLS_BIT0 (R150). -/
  | clsBit0
  /-- CLS_BIT1 (R150). -/
  | clsBit1
  /-- CLS_NONE (R152). -/
  | clsNone
  /-- CLS_RESERVED (R93). -/
  | clsReserved
  /-- ALLOCATE (R170). -/
  | allocate
  /-- BITSTEP `c`: true is BIT1 (R172). -/
  | bitstep (c : Bool)
  /-- ST_NEED_SYNC_BYTE (R175). -/
  | stNeedSyncByte
  /-- ST_NEED_BLOCK_TYPE (R177). -/
  | stNeedBlockType (v : Byte)
  /-- ST_NEED_LENGTH (R178). -/
  | stNeedLength (v : Byte)
  /-- ST_NEED_NAME (R179). -/
  | stNeedName (v : Byte)
  /-- ST_NEED_FILE_TYPE (R180). -/
  | stNeedFileType (v : Byte)
  /-- ST_NEED_ASCII_FLAG (R181). -/
  | stNeedAsciiFlag (v : Byte)
  /-- ST_NEED_GAP_FLAG (R182). -/
  | stNeedGapFlag (v : Byte)
  /-- ST_NEED_START_ADDR (R183). -/
  | stNeedStartAddr (v : Byte)
  /-- ST_NEED_LOAD_ADDR (R184). -/
  | stNeedLoadAddr (v : Byte)
  /-- ST_NEED_DATA (R185). -/
  | stNeedData (v : Byte)
  /-- ST_NEED_CKSUM (R186). -/
  | stNeedCksum (v : Byte)
  /-- ST_NEED_LEAD_BYTE (R187). -/
  | stNeedLeadByte (v : Byte)
  /-- ST_DONE (R189). -/
  | stDone
  /-- ST_ILLEGAL_13 (R190). -/
  | stIllegal13
  /-- ST_ILLEGAL_14 (R190). -/
  | stIllegal14
  /-- ST_ILLEGAL_15 (R190). -/
  | stIllegal15
  /-- SYNC: the tape byte 0x3C in NeedSyncByte (R175). -/
  | sync
  /-- TYPE_NAME: 0x00 in NeedBlockType (R177). -/
  | typeName
  /-- TYPE_DATA: 0x01 in NeedBlockType (R177). -/
  | typeData
  /-- TYPE_EOF: 0xFF in NeedBlockType (R177). -/
  | typeEof
  /-- TYPE_INVALID: any other byte in NeedBlockType (R177). -/
  | typeInvalid (b : Byte)
  /-- LEN_NAME: 0x0F in NeedLength of a Name block (R178). -/
  | lenName
  /-- LEN_EOF: 0x00 in NeedLength of an EndOfFile block (R178). -/
  | lenEof
  /-- LEN_DATA: any byte in NeedLength of a Data block (R178). -/
  | lenData (l : Byte)
  /-- CKSUM: any byte in NeedCksum (R186). -/
  | cksum (c : Byte)
  /-- LEAD_BYTE: any byte in NeedLeadByte (R187). -/
  | leadByte (x : Byte)
  /-- EV_NONE: OUT_PENDING = 0 (R310). -/
  | evNone
  /-- EV_NAME: OUT_PENDING = 1 (R231). -/
  | evName
  /-- EV_PROGRAM: OUT_PENDING = 2 (R232). -/
  | evProgram
  /-- EV_RESERVED: OUT_PENDING = 3 (R41). -/
  | evReserved
  /-- FLT_NONE (R42). -/
  | fltNone
  /-- FLT_INTEGRITY (R186). -/
  | fltIntegrity
  /-- FLT_RESOURCE (R301). -/
  | fltResource
  /-- FLT_STRUCT_BLOCKNUM (R233). -/
  | fltStructBlocknum
  /-- FLT_STRUCT_LINE_OVERFLOW (R236). -/
  | fltStructLineOverflow
  /-- FLT_STRUCT_TRUNCATED (R235). -/
  | fltStructTruncated
  /-- FLT_DETOK_FN_RANGE (R266). -/
  | fltDetokFnRange
  /-- FLT_DETOK_TRUNC_PREFIX (R267). -/
  | fltDetokTruncPrefix
  /-- FLT_ILLEGAL_STATE (R190). -/
  | fltIllegalState
  /-- FLT_RESERVED: codes 9 to 15 (R112). -/
  | fltReserved (c : Code)
  /-- ON_NAME (R231). -/
  | onName
  /-- RECONSTRUCT (R232). -/
  | reconstruct
  /-- CHECK_BLOCK_NUMBER `b` (R233). -/
  | checkBlockNumber (b : Byte)
  /-- LINE_HEADER (R234). -/
  | lineHeader
  /-- NEXT_BYTE (R235). -/
  | nextByte
  /-- READ_CONTENT (R236). -/
  | readContent
  /-- EMIT_LINE `ln` (R237). -/
  | emitLine (ln : BitVec 16)
  /-- SENTINEL (R238). -/
  | sentinel
  /-- NORMALISE (R239). -/
  | normalise
  /-- HOST_FAULT `code` (R304). -/
  | hostFault (code : Code)
  /-- BLOCK_FAULT `code` (R303). -/
  | blockFault (code : Code)
  /-- DT_NUL (R264). -/
  | dtNul
  /-- DT_PRINT (R261). -/
  | dtPrint (b : Byte)
  /-- DT_OPTOK (R262). -/
  | dtOptok (b : Byte)
  /-- DT_FNPFX (R263). -/
  | dtFnpfx
  /-- DT_FN: the byte after 0xFF (R263, R266). -/
  | dtFn (m : Byte)
  /-- DT_ESC (R265). -/
  | dtEsc (b : Byte)
  deriving DecidableEq, Repr

end Sys2Proof
end

