-- ==== Sys2Proof/WellFormed.lean ====
section
/-! DEFINITION. The operand values each row's encoding admits: an operation is well-formed when its operands lie in
the row's class of `opcode_table.json`. Rows without a class condition take every operand. -/

namespace Sys2Proof

/-- A byte no valid block type has (R97). -/
def isInvalidType (b : Byte) : Bool :=
  b != Config.typeName && b != Config.typeData && b != Config.typeEof

/-- The printable range `0x20 .. 0x7E` (R104). -/
def isPrint (b : Byte) : Bool := decide (0x20 ≤ b.toNat) && decide (b.toNat ≤ 0x7E)

/-- The operator-token range `0x80 .. OP_END - 1` (R104). -/
def isOpTok (b : Byte) : Bool := decide (Config.opBase ≤ b.toNat) && decide (b.toNat < Config.opEnd)

/-- The escaped bytes: none of the other classes (R104). -/
def isEsc (b : Byte) : Bool := b != 0 && !isPrint b && !isOpTok b && b != Config.fnPrefix

/-- The codes the block raises: INTEGRITY, RESOURCE, ILLEGAL_STATE (R303). -/
def isBlockCode (c : Code) : Bool := c == 1 || c == 2 || c == 8

/-- The codes the host raises: 3 to 7 (R304). -/
def isHostCode (c : Code) : Bool := decide (3 ≤ c.toNat) && decide (c.toNat ≤ 7)

/-- Samples below 0 (R12, R91). -/
def isNegative (x : Sample) : Bool := decide (x.toInt < 0)

/-- The operands lie where the row's encoding admits them. -/
def WellFormed : Instr → Bool
  | .crossing prev cur => !isNegative prev && isNegative cur
  | .typeInvalid b => isInvalidType b
  | .fltReserved c => decide (9 ≤ c.toNat)
  | .hostFault code => isHostCode code
  | .blockFault code => isBlockCode code
  | .dtPrint b => isPrint b
  | .dtOptok b => isOpTok b
  | .dtEsc b => isEsc b
  | .nop | .samplePush _ | .evAck | .cfgWrite _ _ | .resetAssert
  | .resetDeassert | .portReserved6 | .portReserved7 | .clsBit0 | .clsBit1
  | .clsNone | .clsReserved | .allocate | .bitstep _ | .stNeedSyncByte
  | .stNeedBlockType _ | .stNeedLength _ | .stNeedName _ | .stNeedFileType _ | .stNeedAsciiFlag _
  | .stNeedGapFlag _ | .stNeedStartAddr _ | .stNeedLoadAddr _ | .stNeedData _ | .stNeedCksum _
  | .stNeedLeadByte _ | .stDone | .stIllegal13 | .stIllegal14 | .stIllegal15
  | .sync | .typeName | .typeData | .typeEof | .lenName
  | .lenEof | .lenData _ | .cksum _ | .leadByte _ | .evNone
  | .evName | .evProgram | .evReserved | .fltNone | .fltIntegrity
  | .fltResource | .fltStructBlocknum | .fltStructLineOverflow | .fltStructTruncated | .fltDetokFnRange
  | .fltDetokTruncPrefix | .fltIllegalState | .onName | .reconstruct | .checkBlockNumber _
  | .lineHeader | .nextByte | .readContent | .emitLine _ | .sentinel
  | .normalise | .dtNul | .dtFnpfx | .dtFn _ => true

end Sys2Proof
end

