-- ==== Sys2Proof/Decode.lean ====
section
/-! DEFINITION. Reading an operation from a presented unit, total on any bytes and rejecting by name, and after it the
encoder. A code stands in the low bits of its byte and the byte's other bits are 0; operand bytes follow the code, the
lower byte first (log 2); bytes after the operands are not read. -/

namespace Sys2Proof

/-- Two operand bytes as 16 bits, the lower byte first. -/
def pair16 (lo hi : Byte) : BitVec 16 := hi ++ lo

/-- Four operand bytes as 32 bits, the lowest byte first. -/
def quad32 (b0 b1 b2 b3 : Byte) : Word := (b3 ++ b2) ++ (b1 ++ b0)

/-- Accept an operation whose operands its row admits. -/
def checkOperands (i : Instr) : Except Reject Instr :=
  if WellFormed i then .ok i else .error .operandOutOfClass

/-- An operation that takes one operand byte. -/
def withByte (mk : Byte → Instr) : List Byte → Except Reject Instr
  | v :: _ => .ok (mk v)
  | [] => .error .operandMissing

/-- An operation that takes one 4-bit code, its byte's high bits 0. -/
def withCode (mk : Code → Instr) : List Byte → Except Reject Instr
  | v :: _ => if v.toNat < 16 then checkOperands (mk (v.setWidth 4)) else .error .operandOutOfClass
  | [] => .error .operandMissing

/-- An operation that takes one bit, its byte's other bits 0. -/
def withBit (mk : Bool → Instr) : List Byte → Except Reject Instr
  | v :: _ => if v = 0 then .ok (mk false) else if v = 1 then .ok (mk true) else .error .operandOutOfClass
  | [] => .error .operandMissing

/-- An operation that takes 16 bits. -/
def withPair (mk : BitVec 16 → Instr) : List Byte → Except Reject Instr
  | lo :: hi :: _ => .ok (mk (pair16 lo hi))
  | _ => .error .operandMissing

/-- CFG_WRITE's operands: the register number (2 bits, its byte's high bits 0) and the 32-bit value (R114). -/
def withConfig : List Byte → Except Reject Instr
  | r :: b0 :: b1 :: b2 :: b3 :: _ =>
    if r.toNat < 4 then .ok (.cfgWrite (r.setWidth 2) (quad32 b0 b1 b2 b3)) else .error .operandOutOfClass
  | _ => .error .operandMissing

/-- Port commands (R114). -/
def decodePort (code : Nat) (ops : List Byte) : Except Reject Instr :=
  match code with
  | 0 => .ok .nop
  | 1 => withPair .samplePush ops
  | 2 => .ok .evAck
  | 3 => withConfig ops
  | 4 => .ok .resetAssert
  | 5 => .ok .resetDeassert
  | 6 => .ok .portReserved6
  | 7 => .ok .portReserved7
  | _ => .error .noSuchCode

/-- A sample pair: two samples, the previous first (R131). -/
def decodePair (prevLo : Byte) : List Byte → Except Reject Instr
  | prevHi :: curLo :: curHi :: _ => checkOperands (.crossing (pair16 prevLo prevHi) (pair16 curLo curHi))
  | _ => .error .operandMissing

/-- Classified-bit codes (R93). -/
def decodeClassified (code : Nat) : Except Reject Instr :=
  match code with
  | 0 => .ok .clsBit0
  | 1 => .ok .clsBit1
  | 2 => .ok .clsNone
  | 3 => .ok .clsReserved
  | _ => .error .noSuchCode

/-- Internal operations: the spec gives no code, the model numbers them in the table's order (log 2). -/
def decodeInternal (code : Nat) (ops : List Byte) : Except Reject Instr :=
  match code with
  | 0 => .ok .allocate
  | 1 => withBit .bitstep ops
  | 2 => withCode .blockFault ops
  | _ => .error .noSuchCode

/-- FSM state codes (R110), the completed byte beside the code. -/
def decodeState (code : Nat) (ops : List Byte) : Except Reject Instr :=
  match code with
  | 0 => .ok .stNeedSyncByte
  | 1 => withByte .stNeedBlockType ops
  | 2 => withByte .stNeedLength ops
  | 3 => withByte .stNeedName ops
  | 4 => withByte .stNeedFileType ops
  | 5 => withByte .stNeedAsciiFlag ops
  | 6 => withByte .stNeedGapFlag ops
  | 7 => withByte .stNeedStartAddr ops
  | 8 => withByte .stNeedLoadAddr ops
  | 9 => withByte .stNeedData ops
  | 10 => withByte .stNeedCksum ops
  | 11 => withByte .stNeedLeadByte ops
  | 12 => .ok .stDone
  | 13 => .ok .stIllegal13
  | 14 => .ok .stIllegal14
  | 15 => .ok .stIllegal15
  | _ => .error .noSuchCode

/-- Block type bytes (R97). -/
def decodeType (b : Byte) : Except Reject Instr :=
  if b = Config.typeName then .ok .typeName
  else if b = Config.typeData then .ok .typeData
  else if b = Config.typeEof then .ok .typeEof
  else .ok (.typeInvalid b)

/-- `OUT_PENDING` codes (R41). -/
def decodeEvent (code : Nat) : Except Reject Instr :=
  match code with
  | 0 => .ok .evNone
  | 1 => .ok .evName
  | 2 => .ok .evProgram
  | 3 => .ok .evReserved
  | _ => .error .noSuchCode

/-- Fault codes (R112). -/
def decodeFault (b : Byte) : Except Reject Instr :=
  match b.toNat with
  | 0 => .ok .fltNone
  | 1 => .ok .fltIntegrity
  | 2 => .ok .fltResource
  | 3 => .ok .fltStructBlocknum
  | 4 => .ok .fltStructLineOverflow
  | 5 => .ok .fltStructTruncated
  | 6 => .ok .fltDetokFnRange
  | 7 => .ok .fltDetokTruncPrefix
  | 8 => .ok .fltIllegalState
  | n => if n < 16 then .ok (.fltReserved (b.setWidth 4)) else .error .noSuchCode

/-- Host routines: the spec gives no code, the model numbers them in the table's order (log 2). -/
def decodeRoutine (code : Nat) (ops : List Byte) : Except Reject Instr :=
  match code with
  | 0 => .ok .onName
  | 1 => .ok .reconstruct
  | 2 => withByte .checkBlockNumber ops
  | 3 => .ok .lineHeader
  | 4 => .ok .nextByte
  | 5 => .ok .readContent
  | 6 => withPair .emitLine ops
  | 7 => .ok .sentinel
  | 8 => .ok .normalise
  | 9 => withCode .hostFault ops
  | _ => .error .noSuchCode

/-- Content bytes of the Detokenizer, by the first class that matches (R104). -/
def decodeDetok (b : Byte) : Except Reject Instr :=
  if b = 0 then .ok .dtNul
  else if isPrint b then .ok (.dtPrint b)
  else if isOpTok b then .ok (.dtOptok b)
  else if b = Config.fnPrefix then .ok .dtFnpfx
  else .ok (.dtEsc b)

/-- The operation a unit's first byte, with the bytes after it, stands for in a format. -/
def decodeIn (fmt : Fmt) (c : Byte) (ops : List Byte) : Except Reject Instr :=
  match fmt with
  | .portOp => decodePort c.toNat ops
  | .samplePair => decodePair c ops
  | .classifiedBit => decodeClassified c.toNat
  | .internal => decodeInternal c.toNat ops
  | .fsmState => decodeState c.toNat ops
  | .syncByte => if c = Config.syncByte then .ok .sync else .error .noSuchCode
  | .typeByte => decodeType c
  | .lenNameByte => if c = Config.nameBlockLen then .ok .lenName else .error .noSuchCode
  | .lenEofByte => if c = Config.eofBlockLen then .ok .lenEof else .error .noSuchCode
  | .lenDataByte => .ok (.lenData c)
  | .cksumByte => .ok (.cksum c)
  | .leadByte => .ok (.leadByte c)
  | .outPending => decodeEvent c.toNat
  | .faultCode => decodeFault c
  | .hostRoutine => decodeRoutine c.toNat ops
  | .detokByte => decodeDetok c
  | .detokFn => .ok (.dtFn c)

/-- The operation a presented unit stands for. -/
def decode (it : Item) : Except Reject Instr :=
  match it.bytes with
  | [] => .error .noCode
  | c :: ops => decodeIn it.fmt c ops

/-- The two bytes of 16 bits, the lower first. -/
def bytes16 (v : BitVec 16) : List Byte := [v.extractLsb' 0 8, v.extractLsb' 8 8]

/-- The four bytes of 32 bits, the lowest first. -/
def bytes32 (v : Word) : List Byte :=
  [v.extractLsb' 0 8, v.extractLsb' 8 8, v.extractLsb' 16 8, v.extractLsb' 24 8]

/-- One bit as a byte. -/
def byteOfBit (c : Bool) : Byte := if c then 1 else 0

/-- The unit that presents an operation. -/
def encode : Instr → Item
  | .nop => ⟨.portOp, [0]⟩
  | .samplePush s => ⟨.portOp, 1 :: bytes16 s⟩
  | .evAck => ⟨.portOp, [2]⟩
  | .cfgWrite reg v => ⟨.portOp, 3 :: reg.setWidth 8 :: bytes32 v⟩
  | .resetAssert => ⟨.portOp, [4]⟩
  | .resetDeassert => ⟨.portOp, [5]⟩
  | .portReserved6 => ⟨.portOp, [6]⟩
  | .portReserved7 => ⟨.portOp, [7]⟩
  | .crossing prev cur => ⟨.samplePair, bytes16 prev ++ bytes16 cur⟩
  | .clsBit0 => ⟨.classifiedBit, [0]⟩
  | .clsBit1 => ⟨.classifiedBit, [1]⟩
  | .clsNone => ⟨.classifiedBit, [2]⟩
  | .clsReserved => ⟨.classifiedBit, [3]⟩
  | .allocate => ⟨.internal, [0]⟩
  | .bitstep c => ⟨.internal, [1, byteOfBit c]⟩
  | .stNeedSyncByte => ⟨.fsmState, [0]⟩
  | .stNeedBlockType v => ⟨.fsmState, [1, v]⟩
  | .stNeedLength v => ⟨.fsmState, [2, v]⟩
  | .stNeedName v => ⟨.fsmState, [3, v]⟩
  | .stNeedFileType v => ⟨.fsmState, [4, v]⟩
  | .stNeedAsciiFlag v => ⟨.fsmState, [5, v]⟩
  | .stNeedGapFlag v => ⟨.fsmState, [6, v]⟩
  | .stNeedStartAddr v => ⟨.fsmState, [7, v]⟩
  | .stNeedLoadAddr v => ⟨.fsmState, [8, v]⟩
  | .stNeedData v => ⟨.fsmState, [9, v]⟩
  | .stNeedCksum v => ⟨.fsmState, [10, v]⟩
  | .stNeedLeadByte v => ⟨.fsmState, [11, v]⟩
  | .stDone => ⟨.fsmState, [12]⟩
  | .stIllegal13 => ⟨.fsmState, [13]⟩
  | .stIllegal14 => ⟨.fsmState, [14]⟩
  | .stIllegal15 => ⟨.fsmState, [15]⟩
  | .sync => ⟨.syncByte, [Config.syncByte]⟩
  | .typeName => ⟨.typeByte, [Config.typeName]⟩
  | .typeData => ⟨.typeByte, [Config.typeData]⟩
  | .typeEof => ⟨.typeByte, [Config.typeEof]⟩
  | .typeInvalid b => ⟨.typeByte, [b]⟩
  | .lenName => ⟨.lenNameByte, [Config.nameBlockLen]⟩
  | .lenEof => ⟨.lenEofByte, [Config.eofBlockLen]⟩
  | .lenData l => ⟨.lenDataByte, [l]⟩
  | .cksum c => ⟨.cksumByte, [c]⟩
  | .leadByte x => ⟨.leadByte, [x]⟩
  | .evNone => ⟨.outPending, [0]⟩
  | .evName => ⟨.outPending, [1]⟩
  | .evProgram => ⟨.outPending, [2]⟩
  | .evReserved => ⟨.outPending, [3]⟩
  | .fltNone => ⟨.faultCode, [0]⟩
  | .fltIntegrity => ⟨.faultCode, [1]⟩
  | .fltResource => ⟨.faultCode, [2]⟩
  | .fltStructBlocknum => ⟨.faultCode, [3]⟩
  | .fltStructLineOverflow => ⟨.faultCode, [4]⟩
  | .fltStructTruncated => ⟨.faultCode, [5]⟩
  | .fltDetokFnRange => ⟨.faultCode, [6]⟩
  | .fltDetokTruncPrefix => ⟨.faultCode, [7]⟩
  | .fltIllegalState => ⟨.faultCode, [8]⟩
  | .fltReserved c => ⟨.faultCode, [c.setWidth 8]⟩
  | .onName => ⟨.hostRoutine, [0]⟩
  | .reconstruct => ⟨.hostRoutine, [1]⟩
  | .checkBlockNumber b => ⟨.hostRoutine, [2, b]⟩
  | .lineHeader => ⟨.hostRoutine, [3]⟩
  | .nextByte => ⟨.hostRoutine, [4]⟩
  | .readContent => ⟨.hostRoutine, [5]⟩
  | .emitLine ln => ⟨.hostRoutine, 6 :: bytes16 ln⟩
  | .sentinel => ⟨.hostRoutine, [7]⟩
  | .normalise => ⟨.hostRoutine, [8]⟩
  | .hostFault code => ⟨.hostRoutine, [9, code.setWidth 8]⟩
  | .blockFault code => ⟨.internal, [2, code.setWidth 8]⟩
  | .dtNul => ⟨.detokByte, [0]⟩
  | .dtPrint b => ⟨.detokByte, [b]⟩
  | .dtOptok b => ⟨.detokByte, [b]⟩
  | .dtFnpfx => ⟨.detokByte, [Config.fnPrefix]⟩
  | .dtFn m => ⟨.detokFn, [m]⟩
  | .dtEsc b => ⟨.detokByte, [b]⟩

/-- The longest operation, CFG_WRITE, takes 6 bytes. -/
def maxBytes : Nat := 6

/-- The bytes of a table word: byte `k` is bits `8k+7 .. 8k`, and every bit from `nbits` up is 0. -/
def tableBytes (nbits w : Nat) : List Byte :=
  (List.range maxBytes).map fun k => BitVec.ofNat 8 ((w % 2 ^ nbits) / 2 ^ (8 * k))

/-- A word of the table says nothing of its format, and the codes of different formats are equal numbers. A word
without a format is read in the first of these formats that has it as a code: a port command, an FSM state, the sync
byte, a content byte (log 3). -/
def tableFormats : List Fmt := [.portOp, .fsmState, .syncByte, .detokByte]

/-- The first format of a list in which the bytes are an operation; the port format where there is none. -/
def pickFormat (bytes : List Byte) : List Fmt → Fmt
  | [] => .portOp
  | f :: fs => match decode ⟨f, bytes⟩ with
    | .ok _ => f
    | .error _ => pickFormat bytes fs

/-- The unit a table word is presented as. -/
def tableItem (nbits w : Nat) : Item := ⟨pickFormat (tableBytes nbits w) tableFormats, tableBytes nbits w⟩

/-- The operation the decoder reads from a table word. -/
def decodeTableWord (nbits w : Nat) : Option Instr :=
  match decode (tableItem nbits w) with
  | .ok i => some i
  | .error _ => none

end Sys2Proof
end

