-- ==== Sys2Proof/Machine/State.lean ====
section
/-! DEFINITION. The state of the decoder block and of its host (R20, R230), the reasons a step can stop, and the state
at power-on and after reset (R343, R344). -/

namespace Sys2Proof
namespace Machine

/-- A byte store in canonical form: (address, byte) pairs, addresses strictly rising, no byte 0. An unlisted address
reads as 0, the value allocation gives every entry (R27, R178; log 15). -/
abbrev Memory := List Host.Cell

/-- The number of entries of `PAYLOAD` (R27). -/
def payloadSize : Nat := 255

/-- The canonical form: addresses strictly rising and inside `PAYLOAD`, no entry equal to what an unlisted one reads. -/
abbrev Memory.wf (m : Memory) : Prop :=
  m.Pairwise (fun a b => a.1 < b.1) ∧ ∀ c ∈ m, c.1 < payloadSize ∧ c.2 ≠ 0

/-- The block record (R27). -/
structure Block where
  /-- `STATE` (R28). -/
  state : Code
  /-- `BTYPE` (R29): 0 undetermined, 1 Name, 2 Data, 3 EndOfFile. -/
  btype : BitVec 2
  /-- `LEN` (R33). -/
  len : Byte
  /-- `CK` (R34). -/
  ck : Byte
  /-- `CKRX` (R35). -/
  ckrx : Byte
  /-- `NAME[0..7]` (R36). -/
  name : Vector Byte Config.nameChars
  /-- `FTYPE` (R36). -/
  ftype : Byte
  /-- `ASCII` (R36). -/
  ascii : Byte
  /-- `GAP` (R36). -/
  gap : Byte
  /-- `START_ADDR` (R37). -/
  startAddr : BitVec 16
  /-- `LOAD_ADDR` (R37). -/
  loadAddr : BitVec 16
  /-- `PAYLOAD[0..254]` (R38). -/
  payload : Memory
  /-- `SHIFT` (R31). -/
  shift : Byte
  /-- `BITCNT` (R32). -/
  bitcnt : BitVec 4
  /-- `NIDX` (R39). -/
  nidx : BitVec 4
  /-- `AIDX` (R39). -/
  aidx : BitVec 2
  /-- `DIDX` (R38). -/
  didx : Byte
  deriving DecidableEq, Repr

/-- The allocation value of every field of the record (R27, R170). -/
def Block.fresh : Block where
  state := 0
  btype := 0
  len := 0
  ck := 0
  ckrx := 0
  name := Vector.replicate Config.nameChars 0
  ftype := 0
  ascii := 0
  gap := 0
  startAddr := 0
  loadAddr := 0
  payload := []
  shift := 0
  bitcnt := 0
  nidx := 0
  aidx := 0
  didx := 0

/-- The machine: the decoder block (R20), the host (R230), and the model's own fields (INVENTORY.md, State). -/
structure State where
  /-- `IDX` (R21). -/
  idx : Word
  /-- `LAST_X` (R22). -/
  lastX : Word
  /-- `PREV_NN` (R23). -/
  prevNN : Bool
  /-- `ONE_LO` (R24). -/
  oneLo : Word
  /-- `ONE_HI` (R24). -/
  oneHi : Word
  /-- `ZERO_LO` (R24). -/
  zeroLo : Word
  /-- `ZERO_HI` (R24). -/
  zeroHi : Word
  /-- `ACTIVE` (R26). -/
  active : Bool
  /-- The active block record (R27). -/
  blk : Block
  /-- `SEQ`: the entries written so far, released ones included (R40, R311; log 6). -/
  seq : List Block
  /-- `SEQ_LEN` (R40). -/
  seqLen : Nat
  /-- `OUT_PENDING` (R41): 0 NONE, 1 NAME, 2 PROGRAM. -/
  outPending : BitVec 2
  /-- `FAULT` (R42). -/
  fault : Bool
  /-- `FAULT_CODE` (R42, R112). -/
  faultCode : Code
  /-- `RST` (R46). -/
  rst : Bool
  /-- Host `D` (R230). -/
  d : List (List Byte)
  /-- Host `BI` (R230). -/
  bi : Nat
  /-- Host `POS` (R230). -/
  pos : Nat
  /-- Host `CTR`, `none` for UNSET (R230). -/
  ctr : Option Byte
  /-- Host `LBUF`: the entries written so far (R230; log 7). -/
  lbuf : List Byte
  /-- Host `LLEN` (R230). -/
  llen : Nat
  /-- Host `TEXT` (R230). -/
  text : Text
  /-- Host `HFAULT` (R230). -/
  hfault : Bool
  /-- Host `HFAULT_CODE` (R230). -/
  hfaultCode : Code
  /-- The model's own: the local `ln` of RECONSTRUCT (R232; log 8). -/
  ln : BitVec 16
  /-- The model's own: the byte NextByte returned last (R235; log 8). -/
  ret : Byte
  /-- The model's own: RECONSTRUCT's loop has met the sentinel (R238; log 8). -/
  stop : Bool
  /-- The model's own: the local `out` of a Detok call (R260; log 8). -/
  dtOut : Text
  /-- The model's own: a 0xFF awaits its second byte within a Detok call (R44, R263; log 8). -/
  dtPfx : Bool
  /-- The model's own: the operations issued and not yet performed (R114; log 1). -/
  queue : List Item
  /-- The model's own: the sample sequence of the run in progress, empty where there is none (R60; log 1). -/
  samples : List Sample
  /-- The model's own: the sample sequences supplied and not yet run, oldest first (R62, R346; log 28). -/
  inputs : List (List Sample)
  deriving DecidableEq, Repr

/-- Why the machine stops with a fault: an access the spec says does not exist, in a state no run of the spec's machine
reaches (log 13). The block's and the host's own faults (R303, R304) are next states, not these. -/
inductive Fault where
  /-- Raised by NeedName when `NIDX` is past `NAME[7]` (R36, R39). Safe: the machine stops where the spec has no entry. -/
  | nameBound
  /-- Raised by NeedData when `DIDX` is not below `LEN` (the bound check of R64). Safe. -/
  | payloadBound
  /-- Raised by byte dispatch when a live record holds Done, which R173 and R28 exclude. Safe. -/
  | doneNotLive
  /-- Raised by ON_NAME when the read port has no `SEQ[SEQ_LEN - 1]` (R43). Safe. -/
  | readPortBound
  deriving DecidableEq, Repr

/-- Why the model refuses to give a step a meaning. -/
inductive Refusal where
  /-- Raised by `exec` for an instruction that has no meaning yet. Safe. -/
  | notModelled (mnemonic : String)
  /-- Raised by `step` for a presented unit that is no operation of the spec (R113). Safe. -/
  | undecodable (why : Reject)
  /-- Raised by CLS_RESERVED, EV_RESERVED and FLT_RESERVED: codes never produced, written or raised
  (R93, R41, R112; I23, I24, I25; log 14). Safe. -/
  | reservedCode
  /-- Raised by the sample step past the last index the launch premise `N_SAMPLES <= 2^32 - 1` admits, and by the host
  for a longer sequence (D3, I13; log 11). Safe. -/
  | launchPremise
  /-- Raised by CFG_WRITE of a value above `THRESH_MAX`: "outside the contract: the model refuses the configuration"
  (R342, R25; log 12). Safe. -/
  | outsideContract
  deriving DecidableEq, Repr

/-- Power-on, and the state RESET_ASSERT leaves on a machine that has run nothing (R343, R344). The record, the store's
entries and the host's event variables are unspecified there: the values here are the model's (log 5, 6, 7, 8). -/
def State.reset : State where
  idx := 0
  lastX := 0
  prevNN := false
  oneLo := Config.oneLoReset
  oneHi := Config.oneHiReset
  zeroLo := Config.zeroLoReset
  zeroHi := Config.infinity
  active := false
  blk := Block.fresh
  seq := []
  seqLen := 0
  outPending := 0
  fault := false
  faultCode := 0
  rst := true
  d := []
  bi := 0
  pos := 0
  ctr := none
  lbuf := []
  llen := 0
  text := []
  hfault := false
  hfaultCode := 0
  ln := 0
  ret := 0
  stop := false
  dtOut := []
  dtPfx := false
  queue := []
  samples := []
  inputs := []

/-- The outcome of an operation. -/
abbrev Res := Host.Outcome State Fault Refusal

end Machine
end Sys2Proof
end

