-- ==== Sys2Proof/Machine/Flags.lean ====
section
/-! DEFINITION. The signals computed from the state: the sign of a sample, `MODE`, the acceptance conditions of R114,
and the conditions under which an internal operation or a host routine can occur (log 4). -/

namespace Sys2Proof
namespace Machine

/-- The codes of `STATE` (R110). -/
def stNeedSyncByte : Code := 0
/-- NeedBlockType (R110). -/
def stNeedBlockType : Code := 1
/-- NeedLength (R110). -/
def stNeedLength : Code := 2
/-- NeedName (R110). -/
def stNeedName : Code := 3
/-- NeedFileType (R110). -/
def stNeedFileType : Code := 4
/-- NeedAsciiFlag (R110). -/
def stNeedAsciiFlag : Code := 5
/-- NeedGapFlag (R110). -/
def stNeedGapFlag : Code := 6
/-- NeedStartAddr (R110). -/
def stNeedStartAddr : Code := 7
/-- NeedLoadAddr (R110). -/
def stNeedLoadAddr : Code := 8
/-- NeedData (R110). -/
def stNeedData : Code := 9
/-- NeedCksum (R110). -/
def stNeedCksum : Code := 10
/-- NeedLeadByte (R110). -/
def stNeedLeadByte : Code := 11
/-- Done (R110). -/
def stDone : Code := 12

/-- `BTYPE` Name (R29). -/
def btName : BitVec 2 := 1
/-- `BTYPE` Data (R29). -/
def btData : BitVec 2 := 2
/-- `BTYPE` EndOfFile (R29). -/
def btEof : BitVec 2 := 3

/-- `OUT_PENDING` NONE (R41). -/
def evNone : BitVec 2 := 0
/-- `OUT_PENDING` NAME (R41). -/
def evName : BitVec 2 := 1
/-- `OUT_PENDING` PROGRAM (R41). -/
def evProgram : BitVec 2 := 2

/-- Fault code INTEGRITY (R112). -/
def fcIntegrity : Code := 1
/-- Fault code RESOURCE (R112). -/
def fcResource : Code := 2
/-- Fault code STRUCT_BLOCKNUM (R112). -/
def fcBlocknum : Code := 3
/-- Fault code STRUCT_LINE_OVERFLOW (R112). -/
def fcLineOverflow : Code := 4
/-- Fault code STRUCT_TRUNCATED (R112). -/
def fcTruncated : Code := 5
/-- Fault code DETOK_FN_RANGE (R112). -/
def fcFnRange : Code := 6
/-- Fault code DETOK_TRUNC_PREFIX (R112). -/
def fcTruncPrefix : Code := 7
/-- Fault code ILLEGAL_STATE (R112). -/
def fcIllegalState : Code := 8

/-- Whether a sample is `>= 0`, on its integer value (R12, R61): what `PREV_NN` holds of the previous one (R23). -/
def nonNeg (x : Sample) : Bool := decide (0 ≤ x.toInt)

/-- Scanning modes (R30). -/
inductive Mode where
  | continuous
  | aligned
  deriving DecidableEq, Repr

/-- `MODE`: CONTINUOUS in NeedSyncByte, ALIGNED otherwise (R30). -/
def Block.mode (b : Block) : Mode := if b.state = stNeedSyncByte then .continuous else .aligned

/-- The reserved codes 13, 14 and 15 of `STATE` (R28, R190). -/
def illegalState (c : Code) : Bool := decide (13 ≤ c.toNat)

/-- The block accepts a sample: reset deasserted, `FAULT = 0`, `OUT_PENDING = NONE` (R114, R130 step 1). -/
def accepts (s : State) : Bool := !s.rst && !s.fault && s.outPending == evNone

/-- A step of the block can be under way on an allocated record (R130 after step 2). -/
def live (s : State) : Bool := accepts s && s.active

/-- A byte-complete event can occur in state `c`: the record is in `c`, on a fresh byte (R172, R173). -/
def atByte (c : Code) (s : State) : Bool :=
  live s && s.blk.state == c && s.blk.bitcnt == 0 && s.blk.shift == 0

/-- An event is pending and the host's run has not ended (R304, R310). -/
def hostBusy (s : State) : Bool := s.outPending != evNone && !s.hfault

/-- The host is handling a PROGRAM event (R230, R232). -/
def handling (s : State) : Bool := s.outPending == evProgram && !s.hfault

/-- EV_ACK has an effect (R311). -/
def ackAccepted (s : State) : Bool := !s.rst && !s.fault && s.outPending != evNone

/-- A falling zero-crossing at the current index (R131): `IDX >= 1`, the previous sample `>= 0`, this one `< 0`. -/
def crosses (prevNN : Bool) (x : Sample) (s : State) : Bool :=
  decide (1 ≤ s.idx.toNat) && prevNN && !nonNeg x

end Machine
end Sys2Proof
end

