-- ==== Sys2Proof/Machine/Operands.lean ====
section
/-! DEFINITION. Bit and byte order of every multi-bit value (R68, R69), and the characters of printed text
(R108, R109). -/

namespace Sys2Proof
namespace Machine

/-- The shift register after one classified bit: right by one, the bit in at bit 7 (R68, R171). -/
def insertBit (sh : Byte) (b : Bool) : Byte := (sh >>> 1) ||| (if b then 0x80 else 0)

/-- The bits of a byte in order of arrival, least significant first (R68). -/
def bitsOf (x : Byte) : List Bool :=
  [x.getLsbD 0, x.getLsbD 1, x.getLsbD 2, x.getLsbD 3, x.getLsbD 4, x.getLsbD 5, x.getLsbD 6, x.getLsbD 7]

/-- `{hi, lo}`: two bytes, the first received high (R10, R69). -/
def bigEndian (hi lo : Byte) : BitVec 16 := hi ++ lo

/-- `{A[7:0], v}`: a 16-bit field after one more byte (R183, R184). -/
def pushByte (a : BitVec 16) (v : Byte) : BitVec 16 := bigEndian (a.extractLsb' 0 8) v

/-- The character of a byte's code (R231, R261). -/
def charOf (b : Byte) : Char := Char.ofNat b.toNat

/-- One uppercase hexadecimal digit (R108). -/
def hexDigit (n : Nat) : Char := if n < 10 then Char.ofNat (48 + n) else Char.ofNat (55 + n)

/-- The escape of a byte: backslash, `x`, two uppercase hexadecimal digits, high digit first (R108). -/
def hexEscape (b : Byte) : Text := ['\\', 'x', hexDigit (b.toNat / 16), hexDigit (b.toNat % 16)]

/-- A number in decimal (R109). -/
def decimal (n : Nat) : Text := Nat.toDigits 10 n

/-- Text right-justified in a field, spaces on the left (R109). -/
def padLeft (width : Nat) (t : Text) : Text := List.replicate (width - t.length) ' ' ++ t

/-- The printed form of a line (R109, R237). -/
def lineText (ln : BitVec 16) (content : Text) : Text :=
  padLeft Config.lineNumWidth (decimal ln.toNat) ++ ' ' :: content ++ ['\n']

/-- The header of a Name block: `Program: `, the eight bytes as characters, a newline (R231). -/
def headerText (name : Vector Byte Config.nameChars) : Text :=
  ['P', 'r', 'o', 'g', 'r', 'a', 'm', ':', ' '] ++ name.toList.map charOf ++ ['\n']

end Machine
end Sys2Proof
end

