-- ==== Sys2Proof/Machine/Ops.lean ====
section
/-! DEFINITION. The named operations over the stores and registers: the payload memory (R64), the block store (R65),
fault entry in the block and in the host (R303, R304), the way out of a fault (R340), events (R310, R311), and the
read port (R43). -/

namespace Sys2Proof
namespace Machine

/-- `MemRead(PAYLOAD, k, 1)` (R64): an unlisted entry reads as 0. -/
def memRead : Memory → Nat → Byte
  | [], _ => 0
  | c :: m, k => if c.1 = k then c.2 else memRead m k

/-- `MemWrite(PAYLOAD, k, 1, v)` (R64), keeping the canonical form: writing 0 removes the entry. -/
def memWrite : Memory → Nat → Byte → Memory
  | [], k, v => if v = 0 then [] else [(k, v)]
  | c :: m, k, v =>
    if c.1 < k then c :: memWrite m k v
    else if c.1 = k then (if v = 0 then m else (k, v) :: m)
    else (if v = 0 then c :: m else (k, v) :: c :: m)

/-- `PAYLOAD[0 .. n-1] <- 0` (R178). -/
def memClear (m : Memory) (n : Nat) : Memory := m.filter fun c => decide (n ≤ c.1)

/-- `PAYLOAD[0 .. n-1]` as a byte list (R232). -/
def memTake (m : Memory) (n : Nat) : List Byte := (List.range n).map (memRead m)

/-- A write of entry `k` of a store whose entries past the list are the blank `d`: replaced, or added at the end with
the entries between left blank (log 6). -/
def storeAt {α : Type} (d : α) (l : List α) (k : Nat) (x : α) : List α :=
  if k < l.length then l.set k x else l ++ List.replicate (k - l.length) d ++ [x]

/-- FAULT ENTRY in the block, `raise Fault(code)` (R303): the code is recorded, the step's earlier writes stand. -/
def raiseBlock (code : Code) (s : State) : State := { s with fault := true, faultCode := code }

/-- The Detok call under way, if any, is over: its output and its pending prefix condition exist only within one call
(R44, R260; log 8). -/
def endCall (s : State) : State := { s with dtOut := [], dtPfx := false }

/-- FAULT ENTRY in the host, `raise Fault(code)` (R304): the line is abandoned, and with it the Detok call under way. -/
def raiseHost (code : Code) (s : State) : State := endCall { s with hfault := true, hfaultCode := code }

/-- What RESET_ASSERT does, the only way out of the block's fault (R309, R340). The active record's fields and the
store's entries keep their contents. The run is discarded, and no Detok call outlives it (R44). -/
def resetBlock (s : State) : State :=
  endCall { s with
    rst := true
    idx := 0, lastX := 0, prevNN := false
    oneLo := Config.oneLoReset, oneHi := Config.oneHiReset
    zeroLo := Config.zeroLoReset, zeroHi := Config.infinity
    active := false, seqLen := 0, outPending := evNone
    fault := false, faultCode := 0 }

/-- The start of a run on the host's side: `TEXT` empty, `HFAULT = 0` (R345 step 4), no Detok call under way (R44). -/
def startRun (s : State) : State := endCall { s with text := [], hfault := false, hfaultCode := 0 }

/-- A sequence is taken from those supplied, to be decoded by the run that starts (R60, R346; log 28). -/
def takeInput (xs : List Sample) (rest : List (List Sample)) (s : State) : State :=
  { s with samples := xs, inputs := rest }

/-- The sample source supplies one more sequence (R62, R345 step 1; log 28). -/
def supply (xs : List Sample) (s : State) : State := { s with inputs := s.inputs ++ [xs] }

/-- EMIT EVENT: the event a completed block raises, none for a Data block (R189, R310). -/
def eventOf (btype old : BitVec 2) : BitVec 2 :=
  if btype = btName then evName else if btype = btEof then evProgram else old

/-- EV_ACK (R311): refused without effect, or the event cleared and, for PROGRAM, the store released. -/
def ackEvent (s : State) : State :=
  if ackAccepted s then
    { s with seqLen := if s.outPending = evProgram then 0 else s.seqLen, outPending := evNone }
  else s

/-- `SEQ[k]` (R40); an entry never written is the blank record (log 6). -/
def seqEntry (s : State) (k : Nat) : Block := (s.seq[k]?).getD Block.fresh

/-- The host may read the store: an event is pending or `FAULT = 1` (R43). -/
def readable (s : State) : Bool := s.outPending != evNone || s.fault

/-- The host's read of `SEQ[k]` through the read port: `k < SEQ_LEN` while the store is readable (R43). -/
def readSeq (s : State) (k : Nat) : Option Block :=
  if readable s && decide (k < s.seqLen) then some (seqEntry s k) else none

/-- All the host sees of the block (R43). -/
structure HostView where
  outPending : BitVec 2
  fault : Bool
  faultCode : Code
  /-- `SEQ_LEN` and the entries below it, where the store is readable. -/
  store : Option (List Block)
  deriving DecidableEq, Repr

/-- The read port (R43). -/
def hostView (s : State) : HostView where
  outPending := s.outPending
  fault := s.fault
  faultCode := s.faultCode
  store := if readable s then some ((List.range s.seqLen).map (seqEntry s)) else none

/-- `print t` (R11). -/
def print (t : Text) (s : State) : State := { s with text := s.text ++ t }

/-- Go on with the host's routine unless a host fault has ended it (R304). -/
def hostThen (f : State → State) (s : State) : State := if s.hfault then s else f s

end Machine
end Sys2Proof
end

