-- ==== Sys2Proof/Machine/Detok.lean ====
section
/-! DEFINITION. The Detokenizer look-up unit (R260 to R268) and the meanings of the DT_ rows, one input unit each on
the output of the call under way (log 8). -/

namespace Sys2Proof
namespace Machine

/-- A function token exists for the byte after 0xFF (R107). -/
def fnInRange (p : Params) (m : Byte) : Bool :=
  decide (Config.fnBase ≤ m.toNat) && decide (m.toNat < Config.fnBase + p.fnCount)

/-- The text of one content byte that is not after 0xFF and not 0xFF itself (R104, R261, R262, R264, R265). -/
def unitText (p : Params) (b : Byte) : Text :=
  if b = 0 then []
  else if 0x20 ≤ b.toNat ∧ b.toNat ≤ 0x7E then [charOf b]
  else if Config.opBase ≤ b.toNat ∧ b.toNat < Config.opEnd then p.opTokens b
  else hexEscape b

/-- One byte of a Detok call (R260): `out` so far and whether a 0xFF awaits its second byte; the fault code where the
call raises. The byte after 0xFF is never classified on its own. -/
def detokByte (p : Params) (b : Byte) (out : Text) (pfx : Bool) : Except Code (Text × Bool) :=
  if pfx then
    if fnInRange p b then .ok (out ++ p.fnTokens b, false) else .error fcFnRange
  else if b = Config.fnPrefix then .ok (out, true)
  else .ok (out ++ unitText p b, false)

/-- A Detok call from a point inside it (R260): DETOK_TRUNC_PREFIX where the sequence ends after 0xFF (R267). -/
def detokFrom (p : Params) : List Byte → Text → Bool → Except Code Text
  | [], out, pfx => if pfx then .error fcTruncPrefix else .ok out
  | b :: rest, out, pfx =>
    match detokByte p b out pfx with
    | .ok r => detokFrom p rest r.1 r.2
    | .error c => .error c

/-- `Detok(x)` (R260): no state is kept between calls. -/
def detok (p : Params) (x : List Byte) : Except Code Text := detokFrom p x [] false

/-- Output of one unit, met where no 0xFF awaits its second byte (R260; log 4). -/
def emitUnit (t : Text) (s : State) : State :=
  if !s.hfault && !s.dtPfx then { s with dtOut := s.dtOut ++ t } else s

/-- DT_NUL (R264): nothing is appended. -/
def execDtNul (s : State) : Res := .next (emitUnit [] s)

/-- DT_PRINT (R261): the byte as its ASCII character. -/
def execDtPrint (b : Byte) (s : State) : Res := .next (emitUnit [charOf b] s)

/-- DT_OPTOK (R262). -/
def execDtOptok (b : Byte) (s : State) : Res := .next (emitUnit (Config.params.opTokens b) s)

/-- DT_FNPFX (R263): the next byte is a function index. -/
def execDtFnpfx (s : State) : Res :=
  .next (if !s.hfault && !s.dtPfx then { s with dtPfx := true } else s)

/-- DT_FN (R263): the function token, or DETOK_FN_RANGE where the index has none (R266). -/
def execDtFn (m : Byte) (s : State) : Res :=
  .next (if !s.hfault && s.dtPfx then
    (if fnInRange Config.params m then { s with dtOut := s.dtOut ++ Config.params.fnTokens m, dtPfx := false }
     else raiseHost fcFnRange s)
    else s)

/-- DT_ESC (R265). -/
def execDtEsc (b : Byte) (s : State) : Res := .next (emitUnit (hexEscape b) s)

end Machine
end Sys2Proof
end

