-- ==== Sys2Proof/Machine/Reconstructor.lean ====
section
/-! DEFINITION. The Program Reconstructor, the host's reaction to the block's events (R230 to R242), and the meanings
of the host routines. A host fault ends a routine and its event (R304). -/

namespace Sys2Proof
namespace Machine

/-- `D[BI]`; empty where `BI` is past the list. -/
def curBlock (s : State) : List Byte := (s.d[s.bi]?).getD []

/-- `D[BI][POS]`, where a byte remains (the end test of R232 and R235). -/
def byteAt (s : State) : Option Byte := (curBlock s)[s.pos]?

/-- The bytes of the stream from the cursor on. -/
def remaining (s : State) : Nat := ((s.d.drop s.bi).map List.length).sum - s.pos

/-- The loop of Normalise (R239), at most one pass per payload of `D`. -/
def normaliseLoop : Nat → State → State
  | 0, s => s
  | n + 1, s =>
    if s.bi + 1 < s.d.length ∧ s.pos = (curBlock s).length then
      normaliseLoop n { s with bi := s.bi + 1, pos := 0, ctr := s.ctr.map (· + 1) }
    else s

/-- `Normalise()` (R239): past exhausted payloads, the counter up by one at each boundary. -/
def normalise (s : State) : State := normaliseLoop s.d.length s

/-- `CheckBlockNumber(b)` (R233). -/
def checkBlockNumber (b : Byte) (s : State) : State :=
  let c := s.ctr.getD b
  let s := { s with ctr := some c }
  if b = c ∨ b = c + 1 then s else raiseHost fcBlocknum s

/-- `NextByte()` (R235): the byte is left in `ret`. -/
def nextByte (s : State) : State :=
  let s := normalise s
  match byteAt s with
  | some v => { s with pos := s.pos + 1, ret := v }
  | none => raiseHost fcTruncated s

/-- The line header (R234): two framing bytes read and discarded, then the line number, high byte first. -/
def lineHeader (s : State) : State :=
  let s := hostThen nextByte (nextByte s)
  let s := hostThen nextByte s
  let hi := s.ret
  let s := hostThen nextByte s
  hostThen (fun s => { s with ln := bigEndian hi s.ret }) s

/-- The loop of ReadContent (R236), one pass per byte read. -/
def readContentLoop (p : Params) : Nat → State → State
  | 0, s => s
  | n + 1, s =>
    let s := nextByte s
    if s.hfault ∨ s.ret = 0 then s
    else if p.lineMax ≤ s.llen then raiseHost fcLineOverflow s
    else readContentLoop p n { s with lbuf := storeAt 0 s.lbuf s.llen s.ret, llen := s.llen + 1 }

/-- `ReadContent()` (R236): the passes cover every byte left and the fault past the last (log 17). -/
def readContent (p : Params) (s : State) : State := readContentLoop p (remaining s + 1) { s with llen := 0 }

/-- `LBUF[0 .. LLEN-1]` (R232). -/
def lineContent (s : State) : List Byte := s.lbuf.take s.llen

/-- `EmitLine(ln, LBUF[0 .. LLEN-1])` (R237): a line whose detokenization faults is not printed. The Detok call is over
when the line is printed or has faulted (R44). -/
def emitLine (p : Params) (ln : BitVec 16) (s : State) : State :=
  match detok p (lineContent s) with
  | .ok t => endCall (print (lineText ln t) s)
  | .error c => raiseHost c s

/-- Exactly three bytes left in the current payload, all 0 (R238). -/
def atSentinel (s : State) : Bool := decide ((curBlock s).drop s.pos = [0, 0, 0])

/-- The sentinel test (R238), its answer left in `stop`. -/
def sentinelTest (s : State) : State := { s with stop := atSentinel s }

/-- One line of RECONSTRUCT's loop, from the block-number check on (R232). -/
def lineBody (p : Params) (b : Byte) (s : State) : State :=
  let s := hostThen lineHeader (checkBlockNumber b s)
  let s := hostThen (readContent p) s
  hostThen (fun s => emitLine p s.ln s) s

/-- RECONSTRUCT's loop (R232), at most one pass per byte left and one for the end (log 17). -/
def lineLoop (p : Params) : Nat → State → State
  | 0, s => s
  | n + 1, s =>
    let s := normalise s
    match byteAt s with
    | none => s
    | some b =>
      let s := sentinelTest s
      if s.stop then s else hostThen (lineLoop p n) (lineBody p b s)

/-- The payload of a record: `PAYLOAD[0 .. LEN-1]` (R232). -/
def payloadOf (b : Block) : List Byte := memTake b.payload b.len.toNat

/-- The records the host reads through the port, in order (R43). -/
def readAll (s : State) : List Block := (List.range s.seqLen).filterMap (readSeq s)

/-- The virtual stream: the payloads of the Data blocks, in sequence order (R242). -/
def dataPayloads (s : State) : List (List Byte) :=
  ((readAll s).filter fun b => b.btype == btData).map payloadOf

/-- The first line of RECONSTRUCT (R232), met outside any Detok call (R44). -/
def beginProgram (s : State) : State :=
  endCall { s with d := dataPayloads s, bi := 0, pos := 0, ctr := none, stop := false }

/-- `Reconstruct()` (R232): the lines, then EV_ACK unless a host fault has ended the run (R304). -/
def reconstruct (p : Params) (s : State) : State :=
  let s := beginProgram s
  hostThen ackEvent (lineLoop p (remaining s + 1) s)

/-- `OnName()` (R231): the header of the last record, then EV_ACK. -/
def onName (s : State) : Res :=
  match readSeq s (s.seqLen - 1) with
  | some r => .next (ackEvent (print (headerText r.name) s))
  | none => .fault .readPortBound

/-- A routine of RECONSTRUCT runs while the host handles a PROGRAM event, and has no effect elsewhere (R230; log 4). -/
def whileHandling (f : State → State) (s : State) : Res := .next (if handling s then f s else s)

/-- ON_NAME (R231), the host's handling of a NAME event. -/
def execOnName (s : State) : Res := if s.outPending == evName && !s.hfault then onName s else .next s

/-- RECONSTRUCT (R232), the host's handling of a PROGRAM event. -/
def execReconstruct (s : State) : Res := whileHandling (reconstruct Config.params) s

/-- CHECK_BLOCK_NUMBER (R233). -/
def execCheckBlockNumber (b : Byte) (s : State) : Res := whileHandling (checkBlockNumber b) s

/-- LINE_HEADER (R234). -/
def execLineHeader (s : State) : Res := whileHandling lineHeader s

/-- NEXT_BYTE (R235). -/
def execNextByte (s : State) : Res := whileHandling nextByte s

/-- READ_CONTENT (R236). -/
def execReadContent (s : State) : Res := whileHandling (readContent Config.params) s

/-- EMIT_LINE (R237). -/
def execEmitLine (ln : BitVec 16) (s : State) : Res := whileHandling (emitLine Config.params ln) s

/-- SENTINEL (R238). -/
def execSentinel (s : State) : Res := whileHandling sentinelTest s

/-- NORMALISE (R239). -/
def execNormalise (s : State) : Res := whileHandling normalise s

end Machine
end Sys2Proof
end

