-- ==== Sys2Proof/Machine/Events.lean ====
section
/-! DEFINITION. The meanings of the EV_ rows: the code the host reads in `OUT_PENDING` and what it does on it
(R41, R231, R232, R310; log 19). -/

namespace Sys2Proof
namespace Machine

/-- EV_NONE (R310): no event is pending, the host has nothing to handle. -/
def execEvNone (s : State) : Res := .next s

/-- EV_NAME (R231): the host runs ON_NAME. -/
def execEvName (s : State) : Res := if s.outPending == evName && !s.hfault then onName s else .next s

/-- EV_PROGRAM (R232): the host runs RECONSTRUCT. -/
def execEvProgram (s : State) : Res := whileHandling (reconstruct Config.params) s

/-- EV_RESERVED: `OUT_PENDING` 3 is never written (R41, I23; log 14). -/
def execEvReserved (_s : State) : Res := .refused .reservedCode

end Machine
end Sys2Proof
end

