-- ==== Sys2Proof/Machine/FaultCodes.lean ====
section
/-! DEFINITION. The meanings of the FLT_ rows, BLOCK_FAULT and HOST_FAULT: the raise of each code by the agent R112
names, inside that agent's step (R303, R304; log 4, log 19). -/

namespace Sys2Proof
namespace Machine

/-- A raise inside a step of the block (R303): no effect where no step of the block can be under way. -/
def blockRaise (code : Code) (s : State) : Res := .next (if live s then raiseBlock code s else s)

/-- A raise while the host handles an event (R304): no effect elsewhere. -/
def hostRaise (code : Code) (s : State) : Res := .next (if hostBusy s then raiseHost code s else s)

/-- FLT_NONE (R42, R112): no fault. -/
def execFltNone (s : State) : Res := .next s

/-- FLT_INTEGRITY (R186, R303). -/
def execFltIntegrity (s : State) : Res := blockRaise fcIntegrity s

/-- FLT_RESOURCE (R301, R303). -/
def execFltResource (s : State) : Res := blockRaise fcResource s

/-- FLT_STRUCT_BLOCKNUM (R233, R304). -/
def execFltStructBlocknum (s : State) : Res := hostRaise fcBlocknum s

/-- FLT_STRUCT_LINE_OVERFLOW (R236, R304). -/
def execFltStructLineOverflow (s : State) : Res := hostRaise fcLineOverflow s

/-- FLT_STRUCT_TRUNCATED (R235, R304). -/
def execFltStructTruncated (s : State) : Res := hostRaise fcTruncated s

/-- FLT_DETOK_FN_RANGE (R266, R304). -/
def execFltDetokFnRange (s : State) : Res := hostRaise fcFnRange s

/-- FLT_DETOK_TRUNC_PREFIX (R267, R304). -/
def execFltDetokTruncPrefix (s : State) : Res := hostRaise fcTruncPrefix s

/-- FLT_ILLEGAL_STATE (R190, R303). -/
def execFltIllegalState (s : State) : Res := blockRaise fcIllegalState s

/-- FLT_RESERVED: codes 9 to 15 are never raised (R112, I25; log 14). -/
def execFltReserved (_c : Code) (_s : State) : Res := .refused .reservedCode

/-- HOST_FAULT (R304). -/
def execHostFault (code : Code) (s : State) : Res := hostRaise code s

/-- BLOCK_FAULT (R303). -/
def execBlockFault (code : Code) (s : State) : Res := blockRaise code s

end Machine
end Sys2Proof
end

