-- ==== Sys2Proof/Machine/Frame.lean ====
section
/-! DEFINITION. The Frame Assembler and Block State Machine (R170 to R194): allocation, the bit step, one handler per
state, Done, and the meanings of ALLOCATE, BITSTEP and the ST_ rows. -/

namespace Sys2Proof
namespace Machine

/-- Change the active record. -/
def onBlock (f : Block → Block) (s : State) : State := { s with blk := f s.blk }

/-- `Allocate()` (R170). -/
def allocate (s : State) : State := { s with active := true, blk := Block.fresh }

/-- `SyncCheck()` (R175): the window is compared with the sync byte. -/
def syncCheck (b : Block) : Block :=
  if b.shift = Config.syncByte then { b with shift := 0, bitcnt := 0, state := stNeedBlockType } else b

/-- A valid type byte: the type recorded, the checksum seeded (R177). -/
def acceptType (bt : BitVec 2) (v : Byte) (b : Block) : Block :=
  { b with btype := bt, ck := v, state := stNeedLength }

/-- NeedBlockType (R177): any other byte resynchronises and changes nothing else (R176). -/
def needBlockType (v : Byte) (b : Block) : Block :=
  if v = Config.typeName then acceptType btName v b
  else if v = Config.typeData then acceptType btData v b
  else if v = Config.typeEof then acceptType btEof v b
  else { b with state := stNeedSyncByte }

/-- The lengths a Name or EndOfFile block may not have (R98, R178). -/
def badLength (bt : BitVec 2) (v : Byte) : Bool :=
  (bt == btName && v != Config.nameBlockLen) || (bt == btEof && v != Config.eofBlockLen)

/-- NeedLength (R178): length and checksum are written before the frame is judged. -/
def needLength (v : Byte) (b : Block) : Block :=
  let b := { b with len := v, ck := b.ck + v }
  if badLength b.btype v then { b with state := stNeedSyncByte }
  else if b.btype = btName then { b with nidx := 0, state := stNeedName }
  else if b.btype = btEof then { b with state := stNeedCksum }
  else
    { b with
      payload := memClear b.payload v.toNat, didx := 0
      state := if v = 0 then stNeedCksum else stNeedData }

/-- NeedName (R179), at an index inside `NAME`. -/
def storeName (v : Byte) (b : Block) (h : b.nidx.toNat < Config.nameChars) : Block :=
  { b with
    name := b.name.set b.nidx.toNat v h, nidx := b.nidx + 1, ck := b.ck + v
    state := if b.nidx + 1 = BitVec.ofNat 4 Config.nameChars then stNeedFileType else b.state }

/-- NeedName (R179). -/
def needName (v : Byte) (s : State) : Res :=
  if h : s.blk.nidx.toNat < Config.nameChars then .next { s with blk := storeName v s.blk h } else .fault .nameBound

/-- NeedFileType (R180). -/
def needFileType (v : Byte) (b : Block) : Block :=
  { b with ftype := v, ck := b.ck + v, state := stNeedAsciiFlag }

/-- NeedAsciiFlag (R181). -/
def needAsciiFlag (v : Byte) (b : Block) : Block :=
  { b with ascii := v, ck := b.ck + v, state := stNeedGapFlag }

/-- NeedGapFlag (R182). -/
def needGapFlag (v : Byte) (b : Block) : Block :=
  { b with gap := v, ck := b.ck + v, aidx := 0, state := stNeedStartAddr }

/-- NeedStartAddr (R183): the first byte ends up high. -/
def needStartAddr (v : Byte) (b : Block) : Block :=
  { b with
    startAddr := pushByte b.startAddr v, ck := b.ck + v
    aidx := if b.aidx + 1 = 2 then 0 else b.aidx + 1
    state := if b.aidx + 1 = 2 then stNeedLoadAddr else b.state }

/-- NeedLoadAddr (R184), with the preserved length quirk. -/
def needLoadAddr (v : Byte) (b : Block) : Block :=
  { b with
    loadAddr := pushByte b.loadAddr v, ck := b.ck + v, len := b.len - 1
    aidx := b.aidx + 1
    state := if b.aidx + 1 = 2 then stNeedCksum else b.state }

/-- NeedData (R185), at an index below `LEN`. -/
def storeData (v : Byte) (b : Block) : Block :=
  { b with
    payload := memWrite b.payload b.didx.toNat v, didx := b.didx + 1, ck := b.ck + v
    state := if b.didx + 1 = b.len then stNeedCksum else b.state }

/-- NeedData (R185) with the bound check of R64. -/
def needData (v : Byte) (s : State) : Res :=
  if s.blk.didx.toNat < s.blk.len.toNat then .next (onBlock (storeData v) s) else .fault .payloadBound

/-- NeedCksum (R186). -/
def needCksum (v : Byte) (s : State) : State :=
  let s := onBlock (fun b => { b with ckrx := v }) s
  if v = s.blk.ck then onBlock (fun b => { b with state := stNeedLeadByte }) s else raiseBlock fcIntegrity s

/-- The append of the active record, the event and the end of its activity (R189). -/
def commitBlock (s : State) : State :=
  { s with
    seq := storeAt Block.fresh s.seq s.seqLen s.blk, seqLen := s.seqLen + 1
    outPending := eventOf s.blk.btype s.outPending
    active := false }

/-- `DoneEntry()` (R189): RESOURCE where the store is full. -/
def doneEntry (p : Params) (s : State) : State :=
  let s := onBlock (fun b => { b with state := stDone }) s
  if p.seqCap ≤ s.seqLen then raiseBlock fcResource s else commitBlock s

/-- NeedLeadByte (R187): the byte is not validated. -/
def needLeadByte (p : Params) (_v : Byte) (s : State) : State := doneEntry p s

/-- `ByteHandler(STATE, v)` (R173). NeedSyncByte never reaches it and Done is never live. -/
def byteHandler (p : Params) (v : Byte) (s : State) : Res :=
  match s.blk.state.toNat with
  | 1 => .next (onBlock (needBlockType v) s)
  | 2 => .next (onBlock (needLength v) s)
  | 3 => needName v s
  | 4 => .next (onBlock (needFileType v) s)
  | 5 => .next (onBlock (needAsciiFlag v) s)
  | 6 => .next (onBlock (needGapFlag v) s)
  | 7 => .next (onBlock (needStartAddr v) s)
  | 8 => .next (onBlock (needLoadAddr v) s)
  | 9 => needData v s
  | 10 => .next (needCksum v s)
  | 11 => .next (needLeadByte p v s)
  | _ => .fault .doneNotLive

/-- The aligned half of BitStep, after the insertion: count, and at the eighth bit complete the byte (R172). -/
def countBit (p : Params) (s : State) : Res :=
  if s.blk.bitcnt + 1 = 8 then
    byteHandler p s.blk.shift (onBlock (fun b => { b with shift := 0, bitcnt := 0 }) s)
  else .next (onBlock (fun b => { b with bitcnt := b.bitcnt + 1 }) s)

/-- `BitStep(c)` (R172): the bit is inserted in every live state (R171), then `MODE` decides (R30). -/
def bitStep (p : Params) (c : Bool) (s : State) : Res :=
  if illegalState s.blk.state then .next (raiseBlock fcIllegalState s)
  else
    let s := onBlock (fun b => { b with shift := insertBit b.shift c }) s
    match s.blk.mode with
    | .continuous => .next (onBlock syncCheck s)
    | .aligned => countBit p s

/-- A handler runs where its byte-complete event can occur, and has no effect elsewhere (R173; log 4). -/
def atState (c : Code) (f : State → Res) (s : State) : Res := if atByte c s then f s else .next s

/-- ALLOCATE (R170), performed when no Block is active. -/
def execAllocate (s : State) : Res := .next (if accepts s && !s.active then allocate s else s)

/-- BITSTEP (R172). -/
def execBitstep (c : Bool) (s : State) : Res := if live s then bitStep Config.params c s else .next s

/-- ST_NEED_SYNC_BYTE (R175): the check on the window as it stands. -/
def execStNeedSyncByte (s : State) : Res :=
  .next (if live s && s.blk.state == stNeedSyncByte then onBlock syncCheck s else s)

/-- ST_NEED_BLOCK_TYPE (R177). -/
def execStNeedBlockType (v : Byte) (s : State) : Res :=
  atState stNeedBlockType (fun s => .next (onBlock (needBlockType v) s)) s

/-- ST_NEED_LENGTH (R178). -/
def execStNeedLength (v : Byte) (s : State) : Res :=
  atState stNeedLength (fun s => .next (onBlock (needLength v) s)) s

/-- ST_NEED_NAME (R179). -/
def execStNeedName (v : Byte) (s : State) : Res := atState stNeedName (needName v) s

/-- ST_NEED_FILE_TYPE (R180). -/
def execStNeedFileType (v : Byte) (s : State) : Res :=
  atState stNeedFileType (fun s => .next (onBlock (needFileType v) s)) s

/-- ST_NEED_ASCII_FLAG (R181). -/
def execStNeedAsciiFlag (v : Byte) (s : State) : Res :=
  atState stNeedAsciiFlag (fun s => .next (onBlock (needAsciiFlag v) s)) s

/-- ST_NEED_GAP_FLAG (R182). -/
def execStNeedGapFlag (v : Byte) (s : State) : Res :=
  atState stNeedGapFlag (fun s => .next (onBlock (needGapFlag v) s)) s

/-- ST_NEED_START_ADDR (R183). -/
def execStNeedStartAddr (v : Byte) (s : State) : Res :=
  atState stNeedStartAddr (fun s => .next (onBlock (needStartAddr v) s)) s

/-- ST_NEED_LOAD_ADDR (R184). -/
def execStNeedLoadAddr (v : Byte) (s : State) : Res :=
  atState stNeedLoadAddr (fun s => .next (onBlock (needLoadAddr v) s)) s

/-- ST_NEED_DATA (R185). -/
def execStNeedData (v : Byte) (s : State) : Res := atState stNeedData (needData v) s

/-- ST_NEED_CKSUM (R186). -/
def execStNeedCksum (v : Byte) (s : State) : Res := atState stNeedCksum (fun s => .next (needCksum v s)) s

/-- ST_NEED_LEAD_BYTE (R187). -/
def execStNeedLeadByte (v : Byte) (s : State) : Res :=
  atState stNeedLeadByte (fun s => .next (needLeadByte Config.params v s)) s

/-- ST_DONE (R189), on entry: from NeedLeadByte, the one state with a transition to Done (R193). -/
def execStDone (s : State) : Res := atState stNeedLeadByte (fun s => .next (doneEntry Config.params s)) s

/-- A classified bit met in a reserved state code (R190). -/
def illegalBit (c : Code) (s : State) : State :=
  if live s && s.blk.state == c then raiseBlock fcIllegalState s else s

/-- ST_ILLEGAL_13 (R190). -/
def execStIllegal13 (s : State) : Res := .next (illegalBit 13 s)

/-- ST_ILLEGAL_14 (R190). -/
def execStIllegal14 (s : State) : Res := .next (illegalBit 14 s)

/-- ST_ILLEGAL_15 (R190). -/
def execStIllegal15 (s : State) : Res := .next (illegalBit 15 s)

end Machine
end Sys2Proof
end

