-- ==== Sys2Proof/Machine/Classifier.lean ====
section
/-! DEFINITION. The Bit Classifier (R150 to R158) and the meanings of the CLS_ rows: a result code delivered to the
Frame Assembler. -/

namespace Sys2Proof
namespace Machine

/-- The classifier's result (R93). -/
inductive BitClass where
  | bit0
  | bit1
  | none
  deriving DecidableEq, Repr

/-- `Classify(len)` (R150): bounds inclusive, the one-range first, an empty range matches nothing (R153, R154). -/
def classify (s : State) (len : Word) : BitClass :=
  if s.oneLo ≤ len ∧ len ≤ s.oneHi then .bit1
  else if s.zeroLo ≤ len ∧ len ≤ s.zeroHi then .bit0
  else .none

/-- The 2-bit code of a result on a wire (R93). -/
def BitClass.code : BitClass → BitVec 2
  | .bit0 => 0
  | .bit1 => 1
  | .none => 2

/-- A result delivered: BIT0 and BIT1 go to BitStep, NONE is dropped (R130 step 4, R152). -/
def deliver (p : Params) (c : BitClass) (s : State) : Res :=
  match c with
  | .bit0 => bitStep p false s
  | .bit1 => bitStep p true s
  | .none => .next s

/-- CLS_BIT0 (R150, R172). -/
def execClsBit0 (s : State) : Res := if live s then deliver Config.params .bit0 s else .next s

/-- CLS_BIT1 (R150, R172). -/
def execClsBit1 (s : State) : Res := if live s then deliver Config.params .bit1 s else .next s

/-- CLS_NONE (R152): the bit counter does not advance and nothing is inserted. -/
def execClsNone (s : State) : Res := if live s then deliver Config.params .none s else .next s

/-- CLS_RESERVED: the code 11 is never produced (R93, I24; log 14). -/
def execClsReserved (_s : State) : Res := .refused .reservedCode

end Machine
end Sys2Proof
end

