-- ==== Sys2Proof/Machine/Detector.lean ====
section
/-! DEFINITION. The Cycle Detector and the sample step (R130 to R136), and the meaning of CROSSING. -/

namespace Sys2Proof
namespace Machine

/-- Step 3 of the sample step and the cycle of step 4 (R130 to R132): `PREV_NN` and `IDX` on every sample; on a
crossing `LAST_X`, and the cycle length `i - LAST_X`. -/
def advance (prevNN : Bool) (x : Sample) (s : State) : State × Option Word :=
  if crosses prevNN x s then
    ({ s with prevNN := nonNeg x, idx := s.idx + 1, lastX := s.idx }, some (s.idx - s.lastX))
  else ({ s with prevNN := nonNeg x, idx := s.idx + 1 }, none)

/-- Step 4 of the sample step after the cycle: classification and the bit (R130). -/
def finishSample (p : Params) : State × Option Word → Res
  | (s, some len) => deliver p (classify s len) s
  | (s, none) => .next s

/-- Steps 3 and 4 of the sample step (R130). The premise `N_SAMPLES <= 2^32 - 1` leaves no sample at the last index
(R21, D3; log 11). -/
def detect (p : Params) (prevNN : Bool) (x : Sample) (s : State) : Res :=
  if s.idx = BitVec.allOnes 32 then .refused .launchPremise else finishSample p (advance prevNN x s)

/-- SAMPLE_PUSH(s) (R130): acceptance, allocation, crossing, cycle, classification, bit. -/
def samplePush (p : Params) (x : Sample) (s : State) : Res :=
  if accepts s then detect p s.prevNN x (if s.active then s else allocate s) else .next s

/-- CROSSING (R131, R132): steps 3 and 4 on a pair, the previous sample's sign taken from the pair (log 4). -/
def execCrossing (prev cur : Sample) (s : State) : Res :=
  if live s then detect Config.params (nonNeg prev) cur s else .next s

end Machine
end Sys2Proof
end

