-- ==== Sys2Proof/Machine/Port.lean ====
section
/-! DEFINITION. The meanings of the port operations (R114). An operation that is not accepted has no effect. -/

namespace Sys2Proof
namespace Machine

/-- The threshold values inside the contract: at most `THRESH_MAX`, or the encoding of infinity in a high bound
(R25, R342). -/
def configLegal (p : Params) (reg : BitVec 2) (v : Word) : Bool :=
  decide (v.toNat ≤ p.threshMax) || (v == Config.infinity && (reg == 1 || reg == 3))

/-- `Threshold[reg] <- v` (R342): 0 `ONE_LO`, 1 `ONE_HI`, 2 `ZERO_LO`, 3 `ZERO_HI`. -/
def writeThreshold (reg : BitVec 2) (v : Word) (s : State) : State :=
  if reg = 0 then { s with oneLo := v }
  else if reg = 1 then { s with oneHi := v }
  else if reg = 2 then { s with zeroLo := v }
  else { s with zeroHi := v }

/-- CFG_WRITE(reg, v) (R342). -/
def configWrite (p : Params) (reg : BitVec 2) (v : Word) (s : State) : Res :=
  if s.rst then
    if configLegal p reg v then .next (writeThreshold reg v s) else .refused .outsideContract
  else .next s

/-- NOP (R114): no effect, always accepted. -/
def execNop (s : State) : Res := .next s

/-- SAMPLE_PUSH (R130). -/
def execSamplePush (x : Sample) (s : State) : Res := samplePush Config.params x s

/-- EV_ACK (R311). -/
def execEvAck (s : State) : Res := .next (ackEvent s)

/-- CFG_WRITE (R342). -/
def execCfgWrite (reg : BitVec 2) (v : Word) (s : State) : Res := configWrite Config.params reg v s

/-- RESET_ASSERT (R340): accepted in every state. -/
def execResetAssert (s : State) : Res := .next (resetBlock s)

/-- RESET_DEASSERT (R341): refused without effect while `RST = 0`. A run starts, and no Detok call is under way (R44). -/
def execResetDeassert (s : State) : Res := .next (if s.rst then endCall { s with rst := false } else s)

/-- PORT_RESERVED_6 (R114, I18): refused, no effect. -/
def execPortReserved6 (s : State) : Res := .next s

/-- PORT_RESERVED_7 (R114, I18): refused, no effect. -/
def execPortReserved7 (s : State) : Res := .next s

end Machine
end Sys2Proof
end

