-- ==== Sys2Proof/Machine/Tape.lean ====
section
/-! DEFINITION. The meanings of the tape-byte rows (R96 to R101, R175 to R187): the byte a row names, met in the state
(and block type) the row names. Elsewhere the row is not met and has no effect (log 4). -/

namespace Sys2Proof
namespace Machine

/-- NeedLength with the block type a row names. -/
def lengthOf (bt : BitVec 2) (v : Byte) (s : State) : Res :=
  if s.blk.btype = bt then atState stNeedLength (fun s => .next (onBlock (needLength v) s)) s else .next s

/-- SYNC (R175): the window of the live record in NeedSyncByte holds the tape byte 0x3C. -/
def execSync (s : State) : Res :=
  .next (if live s && s.blk.state == stNeedSyncByte then
    onBlock (fun b => syncCheck { b with shift := Config.syncByte }) s else s)

/-- TYPE_NAME (R177). -/
def execTypeName (s : State) : Res :=
  atState stNeedBlockType (fun s => .next (onBlock (needBlockType Config.typeName) s)) s

/-- TYPE_DATA (R177). -/
def execTypeData (s : State) : Res :=
  atState stNeedBlockType (fun s => .next (onBlock (needBlockType Config.typeData) s)) s

/-- TYPE_EOF (R177). -/
def execTypeEof (s : State) : Res :=
  atState stNeedBlockType (fun s => .next (onBlock (needBlockType Config.typeEof) s)) s

/-- TYPE_INVALID (R176, R177). -/
def execTypeInvalid (b : Byte) (s : State) : Res :=
  atState stNeedBlockType (fun s => .next (onBlock (needBlockType b) s)) s

/-- LEN_NAME (R178). -/
def execLenName (s : State) : Res := lengthOf btName Config.nameBlockLen s

/-- LEN_EOF (R178). -/
def execLenEof (s : State) : Res := lengthOf btEof Config.eofBlockLen s

/-- LEN_DATA (R178). -/
def execLenData (l : Byte) (s : State) : Res := lengthOf btData l s

/-- CKSUM (R186). -/
def execCksum (c : Byte) (s : State) : Res := atState stNeedCksum (fun s => .next (needCksum c s)) s

/-- LEAD_BYTE (R187). -/
def execLeadByte (x : Byte) (s : State) : Res :=
  atState stNeedLeadByte (fun s => .next (needLeadByte Config.params x s)) s

end Machine
end Sys2Proof
end

