-- ==== Sys2Proof/Machine/Dispatch.lean ====
section
/-! DEFINITION. One arm per operation of the opcode table, each a direct call of its meaning. -/

namespace Sys2Proof
namespace Machine

def exec (i : Instr) (s : State) : Host.Outcome State Fault Refusal :=
  match i with
  | .nop => Sys2Proof.Machine.execNop s
  | .samplePush x => Sys2Proof.Machine.execSamplePush x s
  | .evAck => Sys2Proof.Machine.execEvAck s
  | .cfgWrite reg v => Sys2Proof.Machine.execCfgWrite reg v s
  | .resetAssert => Sys2Proof.Machine.execResetAssert s
  | .resetDeassert => Sys2Proof.Machine.execResetDeassert s
  | .portReserved6 => Sys2Proof.Machine.execPortReserved6 s
  | .portReserved7 => Sys2Proof.Machine.execPortReserved7 s
  | .crossing prev cur => Sys2Proof.Machine.execCrossing prev cur s
  | .clsBit0 => Sys2Proof.Machine.execClsBit0 s
  | .clsBit1 => Sys2Proof.Machine.execClsBit1 s
  | .clsNone => Sys2Proof.Machine.execClsNone s
  | .clsReserved => Sys2Proof.Machine.execClsReserved s
  | .allocate => Sys2Proof.Machine.execAllocate s
  | .bitstep c => Sys2Proof.Machine.execBitstep c s
  | .stNeedSyncByte => Sys2Proof.Machine.execStNeedSyncByte s
  | .stNeedBlockType v => Sys2Proof.Machine.execStNeedBlockType v s
  | .stNeedLength v => Sys2Proof.Machine.execStNeedLength v s
  | .stNeedName v => Sys2Proof.Machine.execStNeedName v s
  | .stNeedFileType v => Sys2Proof.Machine.execStNeedFileType v s
  | .stNeedAsciiFlag v => Sys2Proof.Machine.execStNeedAsciiFlag v s
  | .stNeedGapFlag v => Sys2Proof.Machine.execStNeedGapFlag v s
  | .stNeedStartAddr v => Sys2Proof.Machine.execStNeedStartAddr v s
  | .stNeedLoadAddr v => Sys2Proof.Machine.execStNeedLoadAddr v s
  | .stNeedData v => Sys2Proof.Machine.execStNeedData v s
  | .stNeedCksum v => Sys2Proof.Machine.execStNeedCksum v s
  | .stNeedLeadByte v => Sys2Proof.Machine.execStNeedLeadByte v s
  | .stDone => Sys2Proof.Machine.execStDone s
  | .stIllegal13 => Sys2Proof.Machine.execStIllegal13 s
  | .stIllegal14 => Sys2Proof.Machine.execStIllegal14 s
  | .stIllegal15 => Sys2Proof.Machine.execStIllegal15 s
  | .sync => Sys2Proof.Machine.execSync s
  | .typeName => Sys2Proof.Machine.execTypeName s
  | .typeData => Sys2Proof.Machine.execTypeData s
  | .typeEof => Sys2Proof.Machine.execTypeEof s
  | .typeInvalid b => Sys2Proof.Machine.execTypeInvalid b s
  | .lenName => Sys2Proof.Machine.execLenName s
  | .lenEof => Sys2Proof.Machine.execLenEof s
  | .lenData l => Sys2Proof.Machine.execLenData l s
  | .cksum c => Sys2Proof.Machine.execCksum c s
  | .leadByte x => Sys2Proof.Machine.execLeadByte x s
  | .evNone => Sys2Proof.Machine.execEvNone s
  | .evName => Sys2Proof.Machine.execEvName s
  | .evProgram => Sys2Proof.Machine.execEvProgram s
  | .evReserved => Sys2Proof.Machine.execEvReserved s
  | .fltNone => Sys2Proof.Machine.execFltNone s
  | .fltIntegrity => Sys2Proof.Machine.execFltIntegrity s
  | .fltResource => Sys2Proof.Machine.execFltResource s
  | .fltStructBlocknum => Sys2Proof.Machine.execFltStructBlocknum s
  | .fltStructLineOverflow => Sys2Proof.Machine.execFltStructLineOverflow s
  | .fltStructTruncated => Sys2Proof.Machine.execFltStructTruncated s
  | .fltDetokFnRange => Sys2Proof.Machine.execFltDetokFnRange s
  | .fltDetokTruncPrefix => Sys2Proof.Machine.execFltDetokTruncPrefix s
  | .fltIllegalState => Sys2Proof.Machine.execFltIllegalState s
  | .fltReserved c => Sys2Proof.Machine.execFltReserved c s
  | .onName => Sys2Proof.Machine.execOnName s
  | .reconstruct => Sys2Proof.Machine.execReconstruct s
  | .checkBlockNumber b => Sys2Proof.Machine.execCheckBlockNumber b s
  | .lineHeader => Sys2Proof.Machine.execLineHeader s
  | .nextByte => Sys2Proof.Machine.execNextByte s
  | .readContent => Sys2Proof.Machine.execReadContent s
  | .emitLine ln => Sys2Proof.Machine.execEmitLine ln s
  | .sentinel => Sys2Proof.Machine.execSentinel s
  | .normalise => Sys2Proof.Machine.execNormalise s
  | .hostFault code => Sys2Proof.Machine.execHostFault code s
  | .blockFault code => Sys2Proof.Machine.execBlockFault code s
  | .dtNul => Sys2Proof.Machine.execDtNul s
  | .dtPrint b => Sys2Proof.Machine.execDtPrint b s
  | .dtOptok b => Sys2Proof.Machine.execDtOptok b s
  | .dtFnpfx => Sys2Proof.Machine.execDtFnpfx s
  | .dtFn m => Sys2Proof.Machine.execDtFn m s
  | .dtEsc b => Sys2Proof.Machine.execDtEsc b s

end Machine
end Sys2Proof
end

