-- ==== Sys2Proof/Machine/Host.lean ====
section
/-! DEFINITION. The host's boot and run sequence (R345): the operation it issues next when none is queued, and the
fetch of the next operation (log 1). -/

namespace Sys2Proof
namespace Machine

/-- What the machine does next. -/
inductive Fetched where
  /-- A unit was queued: what it decodes to. -/
  | queued (r : Except Reject Instr)
  /-- The host of R345 starts a run on a sequence, leaving others: `TEXT` and `HFAULT` cleared, then RESET_DEASSERT
  (step 4). -/
  | start (xs : List Sample) (rest : List (List Sample))
  /-- The host of R345 issues an operation (steps 2 and 5). -/
  | issue (i : Instr)
  /-- The sequence to run is longer than the launch premise admits (D3, I13). -/
  | tooLong
  /-- No operation: no run is in progress (R307, R345 step 6), and no sequence waits. -/
  | idle
  deriving DecidableEq, Repr

/-- The premise `N_SAMPLES <= 2^32 - 1` (R8, D3). -/
def launchable (xs : List Sample) : Bool := decide (xs.length ≤ 2 ^ 32 - 1)

/-- The run has ended: all samples consumed and no event pending, or an agent has faulted (R307, R345 step 6). -/
def runEnded (s : State) : Bool :=
  !s.rst && (s.fault || s.hfault || (decide (s.samples.length ≤ s.idx.toNat) && s.outPending == evNone))

/-- A run on the next sequence supplied (R346): from reset, into which RESET_ASSERT puts the block unless it is there
already (R345 steps 2 and 4). -/
def newRun (s : State) : Fetched :=
  match s.inputs with
  | [] => .idle
  | xs :: rest =>
    if launchable xs then
      if s.rst then .start xs rest else .issue .resetAssert
    else .tooLong

/-- The operation of the host of R345: where no run is in progress, what a new run takes; in a run, after every push
`FAULT` and `OUT_PENDING` are read, an event is handled, and otherwise `Sample(IDX)` is pushed. -/
def bootOp (s : State) : Fetched :=
  if s.rst || runEnded s then newRun s
  else if s.outPending = evName then .issue .onName
  else if s.outPending = evProgram then .issue .reconstruct
  else match s.samples[s.idx.toNat]? with
    | some x => .issue (.samplePush x)
    | none => .idle

/-- The next operation: the oldest queued unit, else the host's own. -/
def fetch (s : State) : Fetched :=
  match s.queue with
  | it :: _ => .queued (decode it)
  | [] => bootOp s

/-- The queue after its oldest unit is taken. -/
def popQueue (s : State) : State := { s with queue := s.queue.tail }

/-- Present a unit so that it is the next one fetched. -/
def presentFirst (it : Item) (s : State) : State := { s with queue := it :: s.queue }

end Machine
end Sys2Proof
end

