-- ==== Sys2Proof/Machine/Step.lean ====
section
/-! DEFINITION. One step of the system: the block and the host alternate (R75, R312), so one operation is one step. -/

namespace Sys2Proof
namespace Machine

/-- One step: the next operation is fetched and run. With nothing to run no state changes (R114, R354). -/
def step (s : State) : Host.Outcome State Fault Refusal :=
  match fetch s with
  | .queued (.ok i) => exec i (popQueue s)
  | .queued (.error why) => .refused (.undecodable why)
  | .start xs rest => exec .resetDeassert (startRun (takeInput xs rest s))
  | .issue i => exec i s
  | .tooLong => .refused .launchPremise
  | .idle => .next s

/-- The table word presented as the next operation (log 1, log 3). -/
def State.withFetchWord (s : State) (nbits w : Nat) : State := presentFirst (tableItem nbits w) s

end Machine
end Sys2Proof
end

