-- ==== Sys2Proof/Machine/Outcome.lean ====
section
/-! DEFINITION. The outcome of a run (R307), the stage a fault code names (R306), and runs of several operations. -/

namespace Sys2Proof
namespace Machine

/-- The status of a run (R307). -/
inductive Status where
  | success
  | fail (code : Code)
  deriving DecidableEq, Repr

/-- The status a state shows (R307): at most one of the two faults can be set in a run. -/
def status (s : State) : Status :=
  if s.fault then .fail s.faultCode else if s.hfault then .fail s.hfaultCode else .success

/-- The outcome of a run, `(TEXT, status)`, once it has ended (R307). -/
def runOutcome (s : State) : Option (Text × Status) :=
  if runEnded s then some (s.text, status s) else none

/-- The exit status: 0 on success, an open non-zero value on failure (R307, I9; log 18). -/
def exitStatus : Status → Nat
  | .success => 0
  | .fail code => Config.failExitAboveOne code + 1

/-- The stages of the system that raise faults (R306). -/
inductive Stage where
  | frameAssembler
  | programReconstructor
  | detokenizer
  deriving DecidableEq, Repr

/-- The stage a fault code identifies (R306). -/
def faultStage (c : Code) : Option Stage :=
  if c = fcIntegrity ∨ c = fcResource ∨ c = fcIllegalState then some .frameAssembler
  else if c = fcBlocknum ∨ c = fcLineOverflow ∨ c = fcTruncated then some .programReconstructor
  else if c = fcFnRange ∨ c = fcTruncPrefix then some .detokenizer
  else none

/-- Operations one after another, up to the first stop. -/
def execAll : List Instr → State → Res
  | [], s => .next s
  | i :: is, s => match exec i s with
    | .next t => execAll is t
    | .fault r => .fault r
    | .refused r => .refused r

end Machine
end Sys2Proof
end

