-- ==== Sys2Proof/Machine/Scan.lean ====
section
/-! DEFINITION. The source's own detector, a forward scan over the whole sequence from the last crossing (R131 to R133),
beside the run of the per-sample detector it is equivalent to. -/

namespace Sys2Proof
namespace Machine

/-- A falling zero-crossing at index `i` of a sequence (R131). -/
def fallsAt (xs : List Sample) (i : Nat) : Bool :=
  match i with
  | 0 => false
  | j + 1 => match xs[j]?, xs[j + 1]? with
    | some a, some b => nonNeg a && !nonNeg b
    | _, _ => false

/-- The first crossing after a cursor (R133). -/
def nextFall (xs : List Sample) (cur : Nat) : Option Nat :=
  (List.range xs.length).find? fun i => decide (cur < i) && fallsAt xs i

/-- Repeated forward scans from the last crossing: each crossing's index with its cycle length (R132, R133). -/
def scanFrom (xs : List Sample) : Nat → Nat → List (Nat × Nat)
  | 0, _ => []
  | n + 1, cur => match nextFall xs cur with
    | some i => (i, i - cur) :: scanFrom xs n i
    | none => []

/-- The source's scan of a sequence, from index 0 (R132, D4). -/
def sourceScan (xs : List Sample) : List (Nat × Nat) := scanFrom xs xs.length 0

/-- The crossings the per-sample detector finds in a sequence: index and cycle length (R130). -/
def detectorRun : List Sample → State → List (Word × Word)
  | [], _ => []
  | x :: xs, s =>
    match advance s.prevNN x s with
    | (t, some len) => (s.idx, len) :: detectorRun xs t
    | (t, none) => detectorRun xs t

end Machine
end Sys2Proof
end

