-- ==== Sys2Proof/Machine/Stimulus.lean ====
section
/-! DEFINITION. The stimulus notation: what each item expands to (R115 to R117), and the checksum of a frame (R100). -/

namespace Sys2Proof
namespace Machine

/-- Stimulus items (R115). -/
inductive Stim where
  /-- `START`: one sample +1000. -/
  | start
  /-- `END`: one sample -1000. -/
  | finish
  /-- `S v`. -/
  | one (v : Sample)
  /-- `CYC L`. -/
  | cyc (n : Nat)
  /-- `BIT b`. -/
  | bit (b : Bool)
  /-- `NOISE L`. -/
  | noise (n : Nat)
  /-- `BYTE x`. -/
  | byte (x : Byte)
  /-- `LEADER n`. -/
  | leader (n : Nat)
  /-- `FRAME t, b1 .. bL`. -/
  | frame (t : Byte) (bs : List Byte)
  /-- `FRAME! t, c, b1 .. bL`. -/
  | frameWith (t c : Byte) (bs : List Byte)
  deriving DecidableEq, Repr

/-- The amplitude of the notation, 1000: only signs matter (R116). -/
def amplitude : Sample := 1000

/-- `CYC L`: the floor of L/2 samples -1000, then the rest +1000 (R115). -/
def cycleSamples (n : Nat) : List Sample :=
  List.replicate (n / 2) (-amplitude) ++ List.replicate (n - n / 2) amplitude

/-- The nominal cycle length of a bit (R115). -/
def bitCycle (b : Bool) : Nat := if b then 24 else 40

/-- The sum of a byte list mod 256 (R100). -/
def sumBytes (bs : List Byte) : Byte := bs.foldl (· + ·) 0

/-- The checksum of a frame: type, length and payload bytes, mod 256 (R100). -/
def frameChecksum (t : Byte) (bs : List Byte) : Byte := t + BitVec.ofNat 8 bs.length + sumBytes bs

/-- The bytes of a frame, the trailing leader byte 0x55 of the notation last (R95, R115). -/
def frameBytes (t c : Byte) (bs : List Byte) : List Byte :=
  [Config.syncByte, t, BitVec.ofNat 8 bs.length] ++ bs ++ [c, 0x55]

/-- The bits of a byte list in order of arrival (R68). -/
def bitsOfBytes (bs : List Byte) : List Bool := bs.flatMap bitsOf

/-- The cycle lengths an item stands for: none for the single samples (R115). -/
def Stim.cycles : Stim → List Nat
  | .start => []
  | .finish => []
  | .one _ => []
  | .cyc n => [n]
  | .bit b => [bitCycle b]
  | .noise n => [n]
  | .byte x => (bitsOf x).map bitCycle
  | .leader n => (List.range n).map fun k => bitCycle (k % 2 == 0)
  | .frame t bs => (bitsOfBytes (frameBytes t (frameChecksum t bs) bs)).map bitCycle
  | .frameWith t c bs => (bitsOfBytes (frameBytes t c bs)).map bitCycle

/-- The samples an item expands to, each pushed with SAMPLE_PUSH (R115). -/
def Stim.expand : Stim → List Sample
  | .start => [amplitude]
  | .finish => [-amplitude]
  | .one v => [v]
  | i => i.cycles.flatMap cycleSamples

end Machine
end Sys2Proof
end

