-- ==== Sys2Proof/Safety.lean ====
section
/-! DEFINITION. What the statements call a lawful record, a completed record, and the invariant of the machine: the
running checksum (R188), the indices of each state, the store, the event and fault registers. -/

namespace Sys2Proof
namespace Machine

/-- The high and the low byte of 16 bits, summed. -/
def sumPair (a : BitVec 16) : Byte := a.extractLsb' 8 8 + a.extractLsb' 0 8

/-- The type byte a block type was accepted from (R97, R177). -/
def typeByteOf (bt : BitVec 2) : Byte :=
  if bt = btName then Config.typeName else if bt = btData then Config.typeData else Config.typeEof

/-- Type, length and name bytes of a Name block up to name byte `n` (R100). -/
def nameSum (b : Block) (n : Nat) : Byte :=
  Config.typeName + Config.nameBlockLen + sumBytes (b.name.toList.take n)

/-- The Name-block sum through the gap flag (R100). -/
def flagSum (b : Block) : Byte := nameSum b Config.nameChars + b.ftype + b.ascii + b.gap

/-- R100's sum of a whole block: type, received length, and payload or Name-field bytes. -/
def fullSum (b : Block) : Byte :=
  if b.btype = btName then flagSum b + sumPair b.startAddr + sumPair b.loadAddr
  else if b.btype = btData then Config.typeData + b.len + sumBytes (memTake b.payload b.len.toNat)
  else Config.typeEof + Config.eofBlockLen

/-- The length a block of its type holds once its payload is complete: 13 for a Name block (R184), 0 for an EndOfFile
block (R178), any for a Data block. -/
def lenDone (b : Block) : Prop := (b.btype = btName → b.len = 13) ∧ (b.btype = btEof → b.len = 0)

/-- What holds of a live record in each state of the FSM: block type, length, index, and the running checksum, the sum
of the bytes received since the type byte (R176 to R188). -/
def stateLaw (b : Block) : Prop :=
  match b.state.toNat with
  | 0 => b.bitcnt = 0
  | 1 => True
  | 2 => b.btype ≠ 0 ∧ b.ck = typeByteOf b.btype
  | 3 => b.btype = btName ∧ b.len = 15 ∧ b.nidx.toNat < Config.nameChars ∧ b.ck = nameSum b b.nidx.toNat
  | 4 => b.btype = btName ∧ b.len = 15 ∧ b.ck = nameSum b Config.nameChars
  | 5 => b.btype = btName ∧ b.len = 15 ∧ b.ck = nameSum b Config.nameChars + b.ftype
  | 6 => b.btype = btName ∧ b.len = 15 ∧ b.ck = nameSum b Config.nameChars + b.ftype + b.ascii
  | 7 => b.btype = btName ∧ b.len = 15 ∧
      (b.aidx = 0 ∧ b.ck = flagSum b ∨ b.aidx = 1 ∧ b.ck = flagSum b + b.startAddr.extractLsb' 0 8)
  | 8 => b.btype = btName ∧
      (b.aidx = 0 ∧ b.len = 15 ∧ b.ck = flagSum b + sumPair b.startAddr ∨
        b.aidx = 1 ∧ b.len = 14 ∧ b.ck = flagSum b + sumPair b.startAddr + b.loadAddr.extractLsb' 0 8)
  | 9 => b.btype = btData ∧ b.didx.toNat < b.len.toNat ∧
      b.ck = Config.typeData + b.len + sumBytes (memTake b.payload b.didx.toNat)
  | 10 => b.btype ≠ 0 ∧ lenDone b ∧ b.ck = fullSum b
  | 11 => b.btype ≠ 0 ∧ lenDone b ∧ b.ck = fullSum b ∧ b.ckrx = b.ck
  | _ => False

/-- A lawful live record. -/
def lawful (b : Block) : Prop := Memory.wf b.payload ∧ b.bitcnt.toNat < 8 ∧ stateLaw b

/-- A completed record (R188, R189): in Done, of a known type, its checksum received and right. -/
def completed (b : Block) : Prop :=
  Memory.wf b.payload ∧ b.state = stDone ∧ b.btype ≠ 0 ∧ lenDone b ∧ b.ck = fullSum b ∧ b.ckrx = b.ck

/-- The invariant of the machine. -/
structure MachineInv (s : State) : Prop where
  /-- A live record is lawful (R28, R32, R39, R64, R188). -/
  record : s.active = true → s.fault = false → lawful s.blk
  /-- The payload is in canonical form, live or not. -/
  payload : Memory.wf s.blk.payload
  /-- The store holds at most `SEQ_CAP` records, all completed (R40, R188, R189). -/
  store : s.seqLen ≤ Config.params.seqCap ∧ s.seqLen ≤ s.seq.length ∧
    ∀ k < s.seqLen, completed (seqEntry s k)
  /-- While an event is pending the block is idle, and the last record is the one the event names (R41, R310, R312). -/
  event : s.outPending ≠ evNone → s.active = false ∧ s.rst = false ∧ s.fault = false ∧ 1 ≤ s.seqLen ∧
    eventOf (seqEntry s (s.seqLen - 1)).btype evNone = s.outPending
  /-- `FAULT_CODE` is a code of the block exactly while `FAULT = 1` (R42, R303, R112). -/
  faultCodes : (s.fault = true → isBlockCode s.faultCode = true ∧ s.rst = false) ∧
    (s.fault = false → s.faultCode = 0)
  /-- `HFAULT_CODE` is a code of the host exactly while `HFAULT = 1` (R304, R112). -/
  hostCodes : (s.hfault = true → isHostCode s.hfaultCode = true) ∧ (s.hfault = false → s.hfaultCode = 0)
  /-- No Detok call is under way after a host fault (R44, R304; log 8). -/
  call : s.hfault = true → s.dtOut = [] ∧ s.dtPfx = false
  /-- What reset leaves stays while it is held (R340, R46). -/
  held : s.rst = true → s.active = false ∧ s.seqLen = 0 ∧ s.idx = 0 ∧ s.lastX = 0 ∧ s.prevNN = false
  /-- The last crossing lies before the cursor (R21, R22, R132). -/
  cursor : s.lastX.toNat < s.idx.toNat ∨ (s.idx = 0 ∧ s.lastX = 0)
  /-- The line buffer's fill is within its bound (R230, R236). -/
  line : s.llen ≤ Config.params.lineMax ∧ s.llen ≤ s.lbuf.length

/-- The block accepts a sample (R114): the condition as the statements write it. -/
abbrev Accepting (s : State) : Prop := s.rst = false ∧ s.fault = false ∧ s.outPending = 0

/-- The block is inside a run with a record allocated (R130 after step 2). -/
abbrev Live (s : State) : Prop := Accepting s ∧ s.active = true

/-- The live record is in state `c` on a fresh byte (R172). -/
abbrev AtByte (c : Code) (s : State) : Prop :=
  Live s ∧ s.blk.state = c ∧ s.blk.bitcnt = 0 ∧ s.blk.shift = 0

/-- The host is handling a PROGRAM event (R230). -/
abbrev Handling (s : State) : Prop := s.outPending = 2 ∧ s.hfault = false

/-- A falling crossing at the cursor (R131). -/
abbrev Crossing (prevNN : Bool) (x : Sample) (s : State) : Prop :=
  1 ≤ s.idx.toNat ∧ prevNN = true ∧ x.toInt < 0

/-- The handler of each aligned state, with its state code (R173). -/
def handlerRows : List (Code × (Byte → Instr)) :=
  [(1, .stNeedBlockType), (2, .stNeedLength), (3, .stNeedName), (4, .stNeedFileType), (5, .stNeedAsciiFlag),
   (6, .stNeedGapFlag), (7, .stNeedStartAddr), (8, .stNeedLoadAddr), (9, .stNeedData), (10, .stNeedCksum),
   (11, .stNeedLeadByte)]

/-- The bits of tape bytes as the operations that feed them (R68, R172). -/
def feed (bs : List Byte) : List Instr := (bitsOfBytes bs).map Instr.bitstep

/-- The bytes of the virtual stream from the cursor on (R235, R242). -/
def stream (s : State) : List Byte := (curBlock s).drop s.pos ++ (s.d.drop (s.bi + 1)).flatten

/-- A line of program text: block number, framing byte, line number, content, terminator (R102). -/
def lineBytes (k x : Byte) (ln : BitVec 16) (content : List Byte) : List Byte :=
  [k, x, ln.extractLsb' 8 8, ln.extractLsb' 0 8] ++ content ++ [0]

/-- The Detokenizer unit a content byte is, by the class table (R104), given whether it stands after 0xFF (R105). -/
def unitOf (afterPrefix : Bool) (b : Byte) : Instr :=
  if afterPrefix then .dtFn b
  else if b = 0 then .dtNul
  else if isPrint b then .dtPrint b
  else if isOpTok b then .dtOptok b
  else if b = Config.fnPrefix then .dtFnpfx
  else .dtEsc b

/-- The units of a content, in order (R105). -/
def unitsOf : Bool → List Byte → List Instr
  | _, [] => []
  | q, b :: rest => unitOf q b :: unitsOf (!q && b == Config.fnPrefix) rest

/-- The operations the host performs on its own state (R230 to R242, R260): the others are the block's. -/
def hostSide : Instr → Bool
  | .evName | .evProgram | .onName | .reconstruct | .checkBlockNumber _ | .lineHeader | .nextByte | .readContent
  | .emitLine _ | .sentinel | .normalise | .hostFault _ | .fltStructBlocknum | .fltStructLineOverflow
  | .fltStructTruncated | .fltDetokFnRange | .fltDetokTruncPrefix
  | .dtNul | .dtPrint _ | .dtOptok _ | .dtFnpfx | .dtFn _ | .dtEsc _ => true
  | .nop | .samplePush _ | .evAck | .cfgWrite _ _ | .resetAssert | .resetDeassert
  | .portReserved6 | .portReserved7 | .crossing _ _ | .clsBit0 | .clsBit1 | .clsNone
  | .clsReserved | .allocate | .bitstep _ | .stNeedSyncByte | .stNeedBlockType _ | .stNeedLength _
  | .stNeedName _ | .stNeedFileType _ | .stNeedAsciiFlag _ | .stNeedGapFlag _ | .stNeedStartAddr _ | .stNeedLoadAddr _
  | .stNeedData _ | .stNeedCksum _ | .stNeedLeadByte _ | .stDone | .stIllegal13 | .stIllegal14
  | .stIllegal15 | .sync | .typeName | .typeData | .typeEof | .typeInvalid _
  | .lenName | .lenEof | .lenData _ | .cksum _ | .leadByte _ | .evNone
  | .evReserved | .fltNone | .fltIntegrity | .fltResource | .fltIllegalState | .fltReserved _
  | .blockFault _ => false

/-- Every register of the block holds the same (R20). -/
def sameBlock (s t : State) : Prop :=
  t.idx = s.idx ∧ t.lastX = s.lastX ∧ t.prevNN = s.prevNN ∧
  t.oneLo = s.oneLo ∧ t.oneHi = s.oneHi ∧ t.zeroLo = s.zeroLo ∧ t.zeroHi = s.zeroHi ∧
  t.active = s.active ∧ t.blk = s.blk ∧ t.seq = s.seq ∧ t.seqLen = s.seqLen ∧
  t.outPending = s.outPending ∧ t.fault = s.fault ∧ t.faultCode = s.faultCode ∧ t.rst = s.rst

/-- Every field of the host holds the same (R230), the model's own `ln`, `ret` and `stop` among them. -/
def sameHost (s t : State) : Prop :=
  t.d = s.d ∧ t.bi = s.bi ∧ t.pos = s.pos ∧ t.ctr = s.ctr ∧ t.lbuf = s.lbuf ∧ t.llen = s.llen ∧
  t.text = s.text ∧ t.hfault = s.hfault ∧ t.hfaultCode = s.hfaultCode ∧
  t.ln = s.ln ∧ t.ret = s.ret ∧ t.stop = s.stop

/-- The Detok call under way, if any, stands where it stood (log 8). -/
def sameCall (s t : State) : Prop := t.dtOut = s.dtOut ∧ t.dtPfx = s.dtPfx

/-- The inputs hold the same: what is queued, and the sample sequences. -/
def sameInputs (s t : State) : Prop :=
  t.queue = s.queue ∧ t.samples = s.samples ∧ t.inputs = s.inputs

/-- A safe run's state: neither agent has faulted (R307). -/
def safe (s : State) : Prop := s.fault = false ∧ s.hfault = false

end Machine
end Sys2Proof
end

