-- ==== Sys2Proof/Certificates/Slice0/Obligations.lean ====
section
/-! DEFINITION. The statements for the provers. Each docstring names the rule of the spec it formalises, or says what is
the model's own choice. -/

open Sys2Proof Sys2Proof.Machine

/-! ## Port operations -/

/-- R340: RESET_ASSERT is accepted in every state, writes the reset values, and leaves the record's fields, the store's
entries and the host alone. The fields of a Detok call under way, which are the model's (log 8), are left open here. -/
def Obligations.ResetAssertWritesResetValues : Prop :=
  ∀ s : State, ∃ out pfx, exec .resetAssert s = .next
    { s with
      dtOut := out, dtPfx := pfx
      rst := true, idx := 0, lastX := 0, prevNN := false
      oneLo := 18, oneHi := 31, zeroLo := 31, zeroHi := 0xFFFFFFFF
      active := false, seqLen := 0, outPending := 0, fault := false, faultCode := 0 }

/-- R341: RESET_DEASSERT clears `RST`, and has no effect while it is 0. The fields of a Detok call under way, which are the
model's (log 8), are left open here. -/
def Obligations.ResetDeassertClearsReset : Prop :=
  ∀ s : State,
    (s.rst = true → ∃ out pfx, exec .resetDeassert s = .next { s with rst := false, dtOut := out, dtPfx := pfx }) ∧
    (s.rst = false → exec .resetDeassert s = .next s)

/-- R342: CFG_WRITE is refused without effect while `RST = 0`; while reset is held it writes one threshold, or, outside
the contract, the model refuses the configuration. The refusal is said of every bound `THRESH_MAX` may be (log 9). -/
def Obligations.CfgWriteSetsOneThreshold : Prop :=
  ∀ (reg : BitVec 2) (v : Word) (s : State),
    let outside (bound : Nat) := v.toNat > bound ∧ ¬ (v = 0xFFFFFFFF ∧ (reg = 1 ∨ reg = 3))
    (s.rst = false → exec (.cfgWrite reg v) s = .next s) ∧
    (s.rst = true → ¬ outside Config.params.threshMax → exec (.cfgWrite reg v) s = .next
      { s with
        oneLo := if reg = 0 then v else s.oneLo
        oneHi := if reg = 1 then v else s.oneHi
        zeroLo := if reg = 2 then v else s.zeroLo
        zeroHi := if reg = 3 then v else s.zeroHi }) ∧
    exec (.cfgWrite reg v) s = configWrite Config.params reg v s ∧
    (∀ p : Params, s.rst = true → outside p.threshMax → configWrite p reg v s = .refused .outsideContract)

/-- R311: EV_ACK is refused without effect in reset, after a fault or with no event pending; it clears the event, and
for PROGRAM releases the store. -/
def Obligations.EvAckReleasesProgram : Prop :=
  ∀ s : State,
    (s.rst = true ∨ s.fault = true ∨ s.outPending = 0 → exec .evAck s = .next s) ∧
    (s.rst = false → s.fault = false → s.outPending = 2 →
      exec .evAck s = .next { s with seqLen := 0, outPending := 0 }) ∧
    (s.rst = false → s.fault = false → s.outPending ≠ 0 → s.outPending ≠ 2 →
      exec .evAck s = .next { s with outPending := 0 })

/-- R114: NOP has no effect, and neither has a reserved command, which is never accepted; R152: an unclassified cycle
has none on the assembler; R42, R310: the codes NONE of `FAULT_CODE` and of `OUT_PENDING` call for nothing. The model's
own choice (log 4): a row outside the states in which it is met has none either: a handler or tape byte outside its state
and block type, ALLOCATE with a record active, a bit, a pair of samples or a raise of the block without a live record, a
routine of RECONSTRUCT, an event or a raise of the host without its event, a Detokenizer unit after a host fault or on
the wrong side of a 0xFF. -/
def Obligations.OperationsWithoutEffect : Prop :=
  ∀ s : State,
    exec .nop s = .next s ∧ exec .portReserved6 s = .next s ∧ exec .portReserved7 s = .next s ∧
    exec .clsNone s = .next s ∧ exec .fltNone s = .next s ∧ exec .evNone s = .next s ∧
    (∀ h ∈ handlerRows, ∀ v, ¬ AtByte h.1 s → exec (h.2 v) s = .next s) ∧
    (¬ AtByte 1 s → ∀ b, exec .typeName s = .next s ∧ exec .typeData s = .next s ∧ exec .typeEof s = .next s ∧
      exec (.typeInvalid b) s = .next s) ∧
    (¬ (AtByte 2 s ∧ s.blk.btype = 1) → exec .lenName s = .next s) ∧
    (¬ (AtByte 2 s ∧ s.blk.btype = 2) → ∀ l, exec (.lenData l) s = .next s) ∧
    (¬ (AtByte 2 s ∧ s.blk.btype = 3) → exec .lenEof s = .next s) ∧
    (¬ AtByte 10 s → ∀ c, exec (.cksum c) s = .next s) ∧
    (¬ AtByte 11 s → ∀ x, exec (.leadByte x) s = .next s ∧ exec .stDone s = .next s) ∧
    (¬ (Live s ∧ s.blk.state = 0) → exec .stNeedSyncByte s = .next s ∧ exec .sync s = .next s) ∧
    (¬ (Live s ∧ s.blk.state = 13) → exec .stIllegal13 s = .next s) ∧
    (¬ (Live s ∧ s.blk.state = 14) → exec .stIllegal14 s = .next s) ∧
    (¬ (Live s ∧ s.blk.state = 15) → exec .stIllegal15 s = .next s) ∧
    (¬ (Accepting s ∧ s.active = false) → exec .allocate s = .next s) ∧
    (¬ Live s → ∀ c code prev cur, exec (.bitstep c) s = .next s ∧ exec .clsBit0 s = .next s ∧
      exec .clsBit1 s = .next s ∧ exec (.crossing prev cur) s = .next s ∧ exec (.blockFault code) s = .next s ∧
      exec .fltIntegrity s = .next s ∧ exec .fltResource s = .next s ∧ exec .fltIllegalState s = .next s) ∧
    (¬ (s.outPending = 1 ∧ s.hfault = false) → exec .onName s = .next s ∧ exec .evName s = .next s) ∧
    (¬ Handling s → exec .evProgram s = .next s) ∧
    (¬ (s.outPending ≠ 0 ∧ s.hfault = false) → ∀ code, exec (.hostFault code) s = .next s ∧
      exec .fltStructBlocknum s = .next s ∧ exec .fltStructLineOverflow s = .next s ∧
      exec .fltStructTruncated s = .next s ∧ exec .fltDetokFnRange s = .next s ∧
      exec .fltDetokTruncPrefix s = .next s) ∧
    (s.hfault = true ∨ s.dtPfx = true → ∀ b, exec .dtNul s = .next s ∧ exec (.dtPrint b) s = .next s ∧
      exec (.dtOptok b) s = .next s ∧ exec .dtFnpfx s = .next s ∧ exec (.dtEsc b) s = .next s) ∧
    (s.hfault = true ∨ s.dtPfx = false → ∀ m, exec (.dtFn m) s = .next s) ∧
    (¬ Handling s → ∀ b ln, exec .reconstruct s = .next s ∧ exec (.checkBlockNumber b) s = .next s ∧
      exec .lineHeader s = .next s ∧ exec .nextByte s = .next s ∧ exec .readContent s = .next s ∧
      exec (.emitLine ln) s = .next s ∧ exec .sentinel s = .next s ∧ exec .normalise s = .next s)

/-- R130: the whole sample step, on every index the launch premise admits (D3). A sample that is not accepted changes
nothing; an accepted one allocates a record where none is active, advances the cursor and the sign, and on a crossing
moves `LAST_X`, classifies the length and delivers the bit. -/
def Obligations.SamplePushFollowsSampleStep : Prop :=
  ∀ (x : Sample) (s : State),
    let s1 := if s.active then s else { s with active := true, blk := Block.fresh }
    let s2 := { s1 with prevNN := decide (0 ≤ x.toInt), idx := s.idx + 1 }
    let s3 := { s2 with lastX := s.idx }
    (¬ Accepting s → exec (.samplePush x) s = .next s) ∧
    (Accepting s → s.idx ≠ 0xFFFFFFFF → ¬ Crossing s.prevNN x s → exec (.samplePush x) s = .next s2) ∧
    (Accepting s → s.idx ≠ 0xFFFFFFFF → Crossing s.prevNN x s →
      exec (.samplePush x) s = match classify s (s.idx - s.lastX) with
        | .bit1 => exec (.bitstep true) s3
        | .bit0 => exec (.bitstep false) s3
        | .none => .next s3)

/-- R131, R132: a pair of samples that falls through zero, met at an index from 1 up, moves `LAST_X` to that index, and
its cycle length is classified and delivered. CROSSING on its own is the model's reading (log 4). -/
def Obligations.CrossingMeasuresCycle : Prop :=
  ∀ (prev cur : Sample) (s : State), Live s → 1 ≤ s.idx.toNat → s.idx ≠ 0xFFFFFFFF →
    0 ≤ prev.toInt → cur.toInt < 0 →
    let s3 := { s with prevNN := false, idx := s.idx + 1, lastX := s.idx }
    exec (.crossing prev cur) s = match classify s (s.idx - s.lastX) with
      | .bit1 => exec (.bitstep true) s3
      | .bit0 => exec (.bitstep false) s3
      | .none => .next s3

/-- From a state of the invariant, an accepted sample below the last index, a falling pair, a classified bit and the
codes that deliver one all complete: none meets an access that does not exist. R130, R172: what completes. CROSSING and a bit
on their own are the model's reading (log 4), and so is the delivery of a classifier's code (log 20). -/
def Obligations.BlockStepsComplete : Prop :=
  ∀ s : State, MachineInv s →
    (∀ x : Sample, Accepting s → s.idx ≠ 0xFFFFFFFF → ∃ t, exec (.samplePush x) s = .next t ∧
      t.idx.toNat = s.idx.toNat + 1 ∧ t.prevNN = decide (0 ≤ x.toInt) ∧
      t.lastX = (if Crossing s.prevNN x s then s.idx else s.lastX)) ∧
    (∀ prev cur : Sample, Live s → 1 ≤ s.idx.toNat → s.idx ≠ 0xFFFFFFFF → 0 ≤ prev.toInt → cur.toInt < 0 →
      ∃ t, exec (.crossing prev cur) s = .next t ∧ t.idx.toNat = s.idx.toNat + 1 ∧ t.lastX = s.idx) ∧
    (Live s → (∀ c, ∃ t, exec (.bitstep c) s = .next t ∧ t.idx = s.idx) ∧
      (∃ t, exec .clsBit0 s = .next t ∧ exec (.bitstep false) s = .next t) ∧
      (∃ t, exec .clsBit1 s = .next t ∧ exec (.bitstep true) s = .next t))

/-! ## Classifier -/

/-- R150: the classifier's three answers, on the integer values of length and thresholds. -/
def Obligations.ClassifierTestsOneRangeFirst : Prop :=
  ∀ (s : State) (len : Word),
    let inOne := s.oneLo.toNat ≤ len.toNat ∧ len.toNat ≤ s.oneHi.toNat
    let inZero := s.zeroLo.toNat ≤ len.toNat ∧ len.toNat ≤ s.zeroHi.toNat
    (inOne → classify s len = .bit1) ∧
    (¬ inOne → inZero → classify s len = .bit0) ∧
    (¬ inOne → ¬ inZero → classify s len = .none)

/-! ## Bit level -/

/-- R170: ALLOCATE, where no record is active, sets every field of the record to 0. -/
def Obligations.AllocateZeroesRecord : Prop :=
  ∀ s : State, Accepting s → s.active = false →
    exec .allocate s = .next
      { s with
        active := true
        blk := { state := 0, btype := 0, len := 0, ck := 0, ckrx := 0, name := Vector.replicate 8 0, ftype := 0,
                 ascii := 0, gap := 0, startAddr := 0, loadAddr := 0, payload := [], shift := 0, bitcnt := 0,
                 nidx := 0, aidx := 0, didx := 0 } } ∧
    ∀ k, memRead Block.fresh.payload k = 0

/-- R175 with the insertion of R171: in NeedSyncByte a classified bit enters the window; where the window is then 0x3C
the register and counter are cleared and the state is NeedBlockType, otherwise nothing else changes. The check alone
does the same on the window as it stands. SYNC answers the match whatever the window holds: the model's reading of the
row (log 21), and the check as an operation of its own is log 4's. -/
def Obligations.SyncSearchChecksEveryBit : Prop :=
  ∀ s : State, Live s → s.blk.state = 0 →
    let found : State := { s with blk := { s.blk with shift := 0, bitcnt := 0, state := 1 } }
    (∀ c : Bool, let w := (s.blk.shift >>> 1) ||| (if c then 0x80 else 0)
      exec (.bitstep c) s = .next (if w = 0x3C then found else { s with blk := { s.blk with shift := w } })) ∧
    (s.blk.shift = 0x3C → exec .stNeedSyncByte s = .next found) ∧
    (s.blk.shift ≠ 0x3C → exec .stNeedSyncByte s = .next s) ∧
    exec .sync s = .next found

/-- R172, in an aligned state before the eighth bit: the bit is inserted and counted, nothing else changes. -/
def Obligations.BitStepCountsBits : Prop :=
  ∀ (c : Bool) (s : State), Live s → 1 ≤ s.blk.state.toNat → s.blk.state.toNat ≤ 11 → s.blk.bitcnt.toNat < 7 →
    exec (.bitstep c) s = .next
      { s with
        blk := { s.blk with
          shift := (s.blk.shift >>> 1) ||| (if c then 0x80 else 0), bitcnt := s.blk.bitcnt + 1 } }

/-- R172, R173: the eighth bit in an aligned state completes the byte, clears register and counter, and runs the
handler of the state on the byte. -/
def Obligations.EighthBitRunsHandler : Prop :=
  ∀ (c : Bool) (s : State) (h : Code × (Byte → Instr)), h ∈ handlerRows → Live s → s.blk.state = h.1 →
    s.blk.bitcnt = 7 →
    exec (.bitstep c) s =
      exec (h.2 ((s.blk.shift >>> 1) ||| (if c then 0x80 else 0)))
        { s with blk := { s.blk with shift := 0, bitcnt := 0 } }

/-- R174: feeding the bits of a byte to an aligned state with `BITCNT = 0` completes that byte. -/
def Obligations.ByteFedIsByteCompleted : Prop :=
  ∀ (x : Byte) (s : State) (h : Code × (Byte → Instr)), h ∈ handlerRows → Live s → s.blk.state = h.1 →
    s.blk.bitcnt = 0 →
    execAll (feed [x]) s = exec (h.2 x) { s with blk := { s.blk with shift := 0 } }

/-! ## State handlers -/

/-- R177: NeedBlockType, by its handler and by the type rows: a valid type is recorded and seeds the checksum; any other
byte resynchronises and changes `STATE` alone. -/
def Obligations.TypeByteSelectsBlock : Prop :=
  ∀ s : State, AtByte 1 s →
    let accept (bt : BitVec 2) (v : Byte) : Res :=
      .next { s with blk := { s.blk with btype := bt, ck := v, state := 2 } }
    exec (.stNeedBlockType 0x00) s = accept 1 0x00 ∧ exec .typeName s = accept 1 0x00 ∧
    exec (.stNeedBlockType 0x01) s = accept 2 0x01 ∧ exec .typeData s = accept 2 0x01 ∧
    exec (.stNeedBlockType 0xFF) s = accept 3 0xFF ∧ exec .typeEof s = accept 3 0xFF ∧
    ∀ v : Byte, v ≠ 0x00 → v ≠ 0x01 → v ≠ 0xFF →
      exec (.stNeedBlockType v) s = .next { s with blk := { s.blk with state := 0 } } ∧
      exec (.typeInvalid v) s = .next { s with blk := { s.blk with state := 0 } }

/-- R178: NeedLength for every block type and length, by its handler and by the length rows. The stored payload is the
zero-filled one: its entries below the length read 0, the others as before. An undetermined type, which no run has in
this state, takes the branch of Data (log 23). -/
def Obligations.LengthByteJudgesFrame : Prop :=
  ∀ (s : State) (v : Byte), AtByte 2 s →
    let b := { s.blk with len := v, ck := s.blk.ck + v }
    (s.blk.btype = 1 ∧ v ≠ 15 ∨ s.blk.btype = 3 ∧ v ≠ 0 →
      exec (.stNeedLength v) s = .next { s with blk := { b with state := 0 } }) ∧
    (s.blk.btype = 1 → v = 15 →
      exec (.stNeedLength v) s = .next { s with blk := { b with nidx := 0, state := 3 } } ∧
      exec .lenName s = .next { s with blk := { b with nidx := 0, state := 3 } }) ∧
    (s.blk.btype = 3 → v = 0 →
      exec (.stNeedLength v) s = .next { s with blk := { b with state := 10 } } ∧
      exec .lenEof s = .next { s with blk := { b with state := 10 } }) ∧
    (s.blk.btype ≠ 1 → s.blk.btype ≠ 3 → ∃ m : Memory,
      (∀ k, memRead m k = if k < v.toNat then 0 else memRead s.blk.payload k) ∧
      exec (.stNeedLength v) s = .next
        { s with blk := { b with payload := m, didx := 0, state := if v = 0 then 10 else 9 } } ∧
      (s.blk.btype = 2 → exec (.lenData v) s = .next
        { s with blk := { b with payload := m, didx := 0, state := if v = 0 then 10 else 9 } }))

/-- R179: NeedName stores the byte at `NAME[NIDX]`, and the eighth byte moves to NeedFileType. -/
def Obligations.NameByteIsStored : Prop :=
  ∀ (s : State) (v : Byte) (h : s.blk.nidx.toNat < 8), AtByte 3 s →
    exec (.stNeedName v) s = .next
      { s with
        blk := { s.blk with
          name := s.blk.name.set s.blk.nidx.toNat v h, nidx := s.blk.nidx + 1, ck := s.blk.ck + v
          state := if s.blk.nidx.toNat = 7 then 4 else 3 } }

/-- R180, R181, R182: the three one-byte Name fields. -/
def Obligations.FlagBytesAreStored : Prop :=
  ∀ (s : State) (v : Byte),
    (AtByte 4 s → exec (.stNeedFileType v) s = .next
      { s with blk := { s.blk with ftype := v, ck := s.blk.ck + v, state := 5 } }) ∧
    (AtByte 5 s → exec (.stNeedAsciiFlag v) s = .next
      { s with blk := { s.blk with ascii := v, ck := s.blk.ck + v, state := 6 } }) ∧
    (AtByte 6 s → exec (.stNeedGapFlag v) s = .next
      { s with blk := { s.blk with gap := v, ck := s.blk.ck + v, aidx := 0, state := 7 } })

/-- R183, R184: the address bytes, the first ending up high; each byte of the load address takes 1 from `LEN` mod 256.
The new field's value is `256 * (old mod 256) + v`. -/
def Obligations.AddressBytesAreStored : Prop :=
  ∀ (s : State) (v : Byte) (a : BitVec 16), s.blk.aidx.toNat < 2 →
    (AtByte 7 s → a.toNat = 256 * (s.blk.startAddr.toNat % 256) + v.toNat →
      exec (.stNeedStartAddr v) s = .next
        { s with
          blk := { s.blk with
            startAddr := a, ck := s.blk.ck + v
            aidx := if s.blk.aidx = 1 then 0 else 1, state := if s.blk.aidx = 1 then 8 else 7 } }) ∧
    (AtByte 8 s → a.toNat = 256 * (s.blk.loadAddr.toNat % 256) + v.toNat →
      exec (.stNeedLoadAddr v) s = .next
        { s with
          blk := { s.blk with
            loadAddr := a, ck := s.blk.ck + v, len := s.blk.len - 1
            aidx := s.blk.aidx + 1, state := if s.blk.aidx = 1 then 10 else 8 } })

/-- R185: NeedData stores the byte at `PAYLOAD[DIDX]` and nowhere else; the last byte moves to NeedCksum. -/
def Obligations.DataByteIsStored : Prop :=
  ∀ (s : State) (v : Byte), AtByte 9 s → s.blk.didx.toNat < s.blk.len.toNat → Memory.wf s.blk.payload →
    ∃ m : Memory,
      (∀ k, memRead m k = if k = s.blk.didx.toNat then v else memRead s.blk.payload k) ∧
      exec (.stNeedData v) s = .next
        { s with
          blk := { s.blk with
            payload := m, didx := s.blk.didx + 1, ck := s.blk.ck + v
            state := if s.blk.didx.toNat + 1 = s.blk.len.toNat then 10 else 9 } }

/-- R186: the checksum byte is recorded; a match moves to NeedLeadByte, a mismatch raises INTEGRITY in NeedCksum. -/
def Obligations.ChecksumByteIsCompared : Prop :=
  ∀ (s : State) (v : Byte), AtByte 10 s →
    (v = s.blk.ck →
      exec (.stNeedCksum v) s = .next { s with blk := { s.blk with ckrx := v, state := 11 } } ∧
      exec (.cksum v) s = .next { s with blk := { s.blk with ckrx := v, state := 11 } }) ∧
    (v ≠ s.blk.ck →
      exec (.stNeedCksum v) s = .next
        { s with blk := { s.blk with ckrx := v }, fault := true, faultCode := 1 } ∧
      exec (.cksum v) s = .next { s with blk := { s.blk with ckrx := v }, fault := true, faultCode := 1 })

/-- R187, R189: any trailing byte enters Done: the record is appended, the event of its type is raised and the record
is no longer active; where the store is full, RESOURCE is raised with the record in Done. -/
def Obligations.DoneAppendsRecord : Prop :=
  ∀ (s : State) (v : Byte), AtByte 11 s →
    let b := { s.blk with state := 12 }
    let full : State := { s with blk := b, fault := true, faultCode := 2 }
    let kept : State :=
      { s with
        blk := b, active := false
        seq := storeAt Block.fresh s.seq s.seqLen b, seqLen := s.seqLen + 1
        outPending := if b.btype = 1 then 1 else if b.btype = 3 then 2 else 0 }
    (s.seqLen < Config.params.seqCap → exec (.stNeedLeadByte v) s = .next kept ∧ exec (.leadByte v) s = .next kept ∧
      exec .stDone s = .next kept) ∧
    (Config.params.seqCap ≤ s.seqLen → exec (.stNeedLeadByte v) s = .next full ∧ exec (.leadByte v) s = .next full ∧
      exec .stDone s = .next full) ∧
    seqEntry kept s.seqLen = b ∧ ∀ k < s.seqLen, seqEntry kept k = seqEntry s k

/-! ## Faults -/

/-- R303: a raise inside a step of the block sets `FAULT` and `FAULT_CODE` and nothing else; R190: a classified bit met
in a reserved state code raises ILLEGAL_STATE before it is inserted. That a raise is an operation of its own on any live
record is the model's reading (log 4), and so is the raise as the meaning of a FLT_ row (log 19); the codes R303 has are
1, 2 and 8, which are the well-formed ones, and the clause on BLOCK_FAULT says the same of every code. -/
def Obligations.BlockRaiseSetsFault : Prop :=
  ∀ s : State, Live s →
    let raised (c : Code) : Res := .next { s with fault := true, faultCode := c }
    (∀ c, exec (.blockFault c) s = raised c) ∧ exec .fltIntegrity s = raised 1 ∧ exec .fltResource s = raised 2 ∧
    exec .fltIllegalState s = raised 8 ∧
    (∀ c, 13 ≤ s.blk.state.toNat → exec (.bitstep c) s = raised 8) ∧
    (s.blk.state = 13 → exec .stIllegal13 s = raised 8) ∧
    (s.blk.state = 14 → exec .stIllegal14 s = raised 8) ∧
    (s.blk.state = 15 → exec .stIllegal15 s = raised 8)

/-- R304: a raise while the host handles an event sets `HFAULT` and `HFAULT_CODE` and nothing else of the spec's: no
EV_ACK, no text. The Detok call under way, a pair of the model's fields, is over (log 8). That a raise is an operation of
its own under any pending event is the model's reading (log 4), and so is the raise as the meaning of a FLT_ row (log
19); the codes R304 has are 3 to 7, which are the well-formed ones, and the clause on HOST_FAULT says the same of every
code. -/
def Obligations.HostRaiseSetsHostFault : Prop :=
  ∀ s : State, s.outPending ≠ 0 → s.hfault = false →
    let raised (c : Code) : Res := .next { s with hfault := true, hfaultCode := c, dtOut := [], dtPfx := false }
    (∀ c, exec (.hostFault c) s = raised c) ∧ exec .fltStructBlocknum s = raised 3 ∧
    exec .fltStructLineOverflow s = raised 4 ∧ exec .fltStructTruncated s = raised 5 ∧
    exec .fltDetokFnRange s = raised 6 ∧ exec .fltDetokTruncPrefix s = raised 7

/-- R303 corner case (c), R305, R309: once the block has faulted, no operation but RESET_ASSERT changes any of its
registers, so the fault and its code stay. -/
def Obligations.FaultIsStickyUntilReset : Prop :=
  ∀ (i : Instr) (s t : State), s.fault = true → s.rst = false → i ≠ .resetAssert → exec i s = .next t → sameBlock s t

/-- R310, R312: while an event is pending no operation of the block or its port changes any block register, but EV_ACK
and RESET_ASSERT. -/
def Obligations.PendingEventStallsBlock : Prop :=
  ∀ (i : Instr) (s t : State), s.outPending ≠ 0 → s.rst = false → hostSide i = false → i ≠ .evAck → i ≠ .resetAssert →
    exec i s = .next t → sameBlock s t

/-- The codes the spec says are never produced, written or raised are refused (R93, R41, R112; log 14), a sample past
the launch premise is refused (D3; log 11), and so is a unit that is no operation (log 2). -/
def Obligations.ModelRefusesOutsideSpec : Prop :=
  ∀ s : State,
    exec .clsReserved s = .refused .reservedCode ∧ exec .evReserved s = .refused .reservedCode ∧
    (∀ c, exec (.fltReserved c) s = .refused .reservedCode) ∧
    (∀ x, Accepting s → s.idx = 0xFFFFFFFF → exec (.samplePush x) s = .refused .launchPremise) ∧
    (∀ it rest why, s.queue = it :: rest → decode it = .error why → step s = .refused (.undecodable why))

/-! ## Whole-machine rules -/

/-- R157, R348: the thresholds change only under reset: while `RST = 0` no operation but RESET_ASSERT changes one. -/
def Obligations.ThresholdsFixedDuringRun : Prop :=
  ∀ (i : Instr) (s t : State), s.rst = false → i ≠ .resetAssert → exec i s = .next t →
    t.oneLo = s.oneLo ∧ t.oneHi = s.oneHi ∧ t.zeroLo = s.zeroLo ∧ t.zeroHi = s.zeroHi

/-- R21: the cursor is moved only by the sample step (and its CROSSING), by exactly one, and by reset, to 0. -/
def Obligations.CursorAdvancesByOne : Prop :=
  ∀ (i : Instr) (s t : State), exec i s = .next t →
    match i with
    | .resetAssert => t.idx = 0
    | .samplePush _ => t.idx = s.idx ∨ t.idx.toNat = s.idx.toNat + 1
    | .crossing _ _ => t.idx = s.idx ∨ t.idx.toNat = s.idx.toNat + 1
    | _ => t.idx = s.idx

/-- R65: a record in the store is never modified: after any operation the store holds it still, or the operation was the
EV_ACK of a PROGRAM event, on its own or at the end of RECONSTRUCT (R311, R232), or RESET_ASSERT (R340), and the store is
released. -/
def Obligations.StoredRecordsAreNeverModified : Prop :=
  ∀ (i : Instr) (s t : State), exec i s = .next t →
    t.seqLen = 0 ∧ (i = .resetAssert ∨ s.outPending = 2 ∧ (i = .evAck ∨ i = .reconstruct ∨ i = .evProgram)) ∨
      s.seqLen ≤ t.seqLen ∧ ∀ k < s.seqLen, seqEntry t k = seqEntry s k

/-- R63, R230: an operation of the block or its port leaves every host field and the inputs alone, but for the Detok call
under way, a pair of the model's fields, which no reset leaves standing (log 8); an operation of the host leaves every block register alone, but for the EV_ACK it ends in (R231, R232). -/
def Obligations.AgentsKeepToTheirState : Prop :=
  ∀ (i : Instr) (s t : State), exec i s = .next t → sameInputs s t ∧
    (hostSide i = false → sameHost s t ∧ (i ≠ .resetAssert → i ≠ .resetDeassert → sameCall s t)) ∧
    (hostSide i = true →
      sameBlock s t ∨ sameBlock { s with seqLen := if s.outPending = 2 then 0 else s.seqLen, outPending := 0 } t)

/-- R43: the host sees the store only while an event is pending or after a fault, and there only the entries below
`SEQ_LEN`. -/
def Obligations.ReadPortShowsCommittedStore : Prop :=
  ∀ (s : State) (k : Nat),
    (s.outPending = 0 → s.fault = false → readSeq s k = none ∧ (hostView s).store = none) ∧
    (s.outPending ≠ 0 ∨ s.fault = true →
      readSeq s k = (if k < s.seqLen then some (seqEntry s k) else none) ∧
      ∃ l, (hostView s).store = some l ∧ l.length = s.seqLen ∧ ∀ j < s.seqLen, l[j]? = some (seqEntry s j))

/-! ## The host -/

/-- R231: ON_NAME prints `Program: `, the eight name bytes as characters and a newline, then acknowledges; the Name
record stays in the store. -/
def Obligations.OnNamePrintsHeader : Prop :=
  ∀ s : State, s.rst = false → s.fault = false → s.outPending = 1 → s.hfault = false → 1 ≤ s.seqLen →
    let r := seqEntry s (s.seqLen - 1)
    let t : State :=
      { s with
        text := s.text ++ (['P', 'r', 'o', 'g', 'r', 'a', 'm', ':', ' '] ++
          r.name.toList.map (fun b => Char.ofNat b.toNat) ++ ['\n'])
        outPending := 0 }
    exec .onName s = .next t ∧ exec .evName s = .next t

/-- R232, R304: RECONSTRUCT ends, and ends in one of two ways: with the event acknowledged and the store released, or
with a host fault, the event still pending and the store kept. What was printed before stands. R242: `D` is the list of
the payloads of the Data records below `SEQ_LEN`, in order. -/
def Obligations.ReconstructEndsOrFaults : Prop :=
  ∀ s : State, s.rst = false → s.fault = false → Handling s →
    ∃ t, exec .reconstruct s = .next t ∧ exec .evProgram s = .next t ∧ s.text <+: t.text ∧
      t.d = (((List.range s.seqLen).map (seqEntry s)).filter fun b => b.btype = 2).map
        (fun b => (List.range b.len.toNat).map (memRead b.payload)) ∧
      (t.hfault = false ∧ t.outPending = 0 ∧ t.seqLen = 0 ∨
        t.hfault = true ∧ isHostCode t.hfaultCode = true ∧ t.outPending = 2 ∧ t.seqLen = s.seqLen)

/-- R233: the block-number check: the first byte sets the counter, the counter and its successor mod 256 pass, any
other byte raises STRUCT_BLOCKNUM. The fields of a Detok call under way, which are the model's (log 8), are left open in
the raise. -/
def Obligations.BlockNumberIsChecked : Prop :=
  ∀ (s : State) (b : Byte), Handling s →
    (s.ctr = none → exec (.checkBlockNumber b) s = .next { s with ctr := some b }) ∧
    (∀ c, s.ctr = some c → b = c ∨ b = c + 1 → exec (.checkBlockNumber b) s = .next s) ∧
    (∀ c, s.ctr = some c → b ≠ c → b ≠ c + 1 →
      ∃ out pfx, exec (.checkBlockNumber b) s = .next
        { s with hfault := true, hfaultCode := 3, dtOut := out, dtPfx := pfx })

/-- R239: Normalise moves the cursor to the block of the next byte, or to the last block, without passing a byte, and
adds to the counter one for each boundary crossed. -/
def Obligations.NormaliseSkipsExhaustedBlocks : Prop :=
  ∀ s : State, Handling s → s.pos ≤ (curBlock s).length →
    ∃ bi pos, let t : State := { s with bi := bi, pos := pos, ctr := s.ctr.map (· + BitVec.ofNat 8 (bi - s.bi)) }
      exec .normalise s = .next t ∧ s.bi ≤ bi ∧ stream t = stream s ∧ pos ≤ (curBlock t).length ∧
      (pos = (curBlock t).length → s.d.length ≤ bi + 1) ∧ (bi = s.bi → pos = s.pos)

/-- R235, R242: NextByte takes the next byte of the virtual stream, the counter up by one for each boundary crossed;
where no byte is left it raises STRUCT_TRUNCATED. The byte returned is kept in a field of the model (log 8). -/
def Obligations.NextByteReadsVirtualStream : Prop :=
  ∀ s : State, Handling s → s.pos ≤ (curBlock s).length →
    (∀ v rest, stream s = v :: rest →
      ∃ bi pos, let t : State :=
          { s with bi := bi, pos := pos, ret := v, ctr := s.ctr.map (· + BitVec.ofNat 8 (bi - s.bi)) }
        exec .nextByte s = .next t ∧ s.bi ≤ bi ∧ stream t = rest ∧ pos ≤ (curBlock t).length) ∧
    (stream s = [] → ∃ t, exec .nextByte s = .next t ∧ t.hfault = true ∧ t.hfaultCode = 5 ∧ t.text = s.text)

/-- R234: the header takes four bytes, across blocks where it must, drops the first two and forms the line number from
the others, the first of them high. A stream of fewer than four raises STRUCT_TRUNCATED (R235). The number
is kept in a field of the model (log 8). -/
def Obligations.LineHeaderFormsLineNumber : Prop :=
  ∀ s : State, Handling s → s.pos ≤ (curBlock s).length →
    (∀ a b hi lo rest, stream s = a :: b :: hi :: lo :: rest →
      ∃ t, exec .lineHeader s = .next t ∧ t.hfault = false ∧ t.ln.toNat = 256 * hi.toNat + lo.toNat ∧
        stream t = rest ∧ t.pos ≤ (curBlock t).length ∧ t.d = s.d ∧ t.text = s.text) ∧
    ((stream s).length < 4 → ∃ t, exec .lineHeader s = .next t ∧ t.hfault = true ∧ t.hfaultCode = 5)

/-- R236: ReadContent keeps the bytes up to the terminator, which it takes and does not store; one byte more than
`LINE_MAX` raises STRUCT_LINE_OVERFLOW, a stream that ends first STRUCT_TRUNCATED. -/
def Obligations.ReadContentStopsAtTerminator : Prop :=
  ∀ (s : State) (content rest : List Byte), Handling s → s.pos ≤ (curBlock s).length → (0 : Byte) ∉ content →
    (content.length ≤ Config.params.lineMax → stream s = content ++ 0 :: rest →
      ∃ t, exec .readContent s = .next t ∧ t.hfault = false ∧ lineContent t = content ∧ stream t = rest ∧
        t.pos ≤ (curBlock t).length ∧ t.d = s.d ∧ t.text = s.text ∧ t.ln = s.ln) ∧
    (content.length = Config.params.lineMax + 1 → stream s = content ++ rest →
      ∃ t, exec .readContent s = .next t ∧ t.hfault = true ∧ t.hfaultCode = 4) ∧
    (content.length ≤ Config.params.lineMax → stream s = content →
      ∃ t, exec .readContent s = .next t ∧ t.hfault = true ∧ t.hfaultCode = 5)

/-- R237, R109: EmitLine prints the number right-justified in 5 places, a space, the detokenized content and a newline;
a line whose detokenization faults is not printed. The fields of the Detok call are the model's (log 8). -/
def Obligations.EmitLinePrintsLine : Prop :=
  ∀ (s : State) (ln : BitVec 16), Handling s →
    (∀ t, detok Config.params (s.lbuf.take s.llen) = .ok t →
      exec (.emitLine ln) s = .next
        { s with
          text := s.text ++ (List.replicate (5 - (Nat.toDigits 10 ln.toNat).length) ' ' ++
            Nat.toDigits 10 ln.toNat ++ ' ' :: t ++ ['\n'])
          dtOut := [], dtPfx := false }) ∧
    (∀ c, detok Config.params (s.lbuf.take s.llen) = .error c →
      exec (.emitLine ln) s = .next { s with hfault := true, hfaultCode := c, dtOut := [], dtPfx := false })

/-- R238, R240: the sentinel is exactly three zero bytes left in the current block, whatever later blocks hold. Its
answer is kept in a field of the model (log 8). -/
def Obligations.SentinelLooksAtCurrentBlock : Prop :=
  ∀ s : State, Handling s → s.pos ≤ (curBlock s).length →
    ∃ b, exec .sentinel s = .next { s with stop := b } ∧
      (b = true ↔ (curBlock s).length = s.pos + 3 ∧ ∀ k, k < 3 → (curBlock s)[s.pos + k]? = some 0)

/-- The passes RECONSTRUCT allows its loop are enough: more of them change nothing, so its loop is R232's loop run to
its end (log 17). -/
def Obligations.LineLoopPassesSuffice : Prop :=
  ∀ (p : Params) (s : State) (n : Nat), s.pos ≤ (curBlock s).length → remaining s + 1 ≤ n →
    lineLoop p n s = lineLoop p (remaining s + 1) s

/-- R232 to R237 and R242 together: a program whose one Data record below `SEQ_LEN` holds a list of lines with the same
block number, each content free of zeros, within `LINE_MAX` and with a text, is printed line by line, and
acknowledged. -/
def Obligations.ReconstructPrintsLines : Prop :=
  ∀ (s : State) (k : Byte) (lines : List (Byte × BitVec 16 × List Byte × Text)),
    s.rst = false → s.fault = false → Handling s →
    (∀ l ∈ lines, (0 : Byte) ∉ l.2.2.1 ∧ l.2.2.1.length ≤ Config.params.lineMax ∧
      detok Config.params l.2.2.1 = .ok l.2.2.2) →
    (((List.range s.seqLen).map (seqEntry s)).filter fun b => b.btype = 2).map
      (fun b => (List.range b.len.toNat).map (memRead b.payload)) =
      [lines.flatMap fun l => lineBytes k l.1 l.2.1 l.2.2.1] →
    ∃ t, exec .reconstruct s = .next t ∧ exec .evProgram s = .next t ∧
      t.hfault = false ∧ t.outPending = 0 ∧ t.seqLen = 0 ∧
      t.text = s.text ++ lines.flatMap fun l =>
        List.replicate (5 - (Nat.toDigits 10 l.2.1.toNat).length) ' ' ++
          Nat.toDigits 10 l.2.1.toNat ++ ' ' :: l.2.2.2 ++ ['\n']

/-! ## Detokenizer -/

/-- R261 to R266: one unit appends its text: nothing, the character, the keyword (ELSE for 0x84), or the escape with two
uppercase hexadecimal digits; 0xFF appends nothing and awaits its second byte, which appends its function token, or
raises DETOK_FN_RANGE where it has none. The output under way is a field of the model (log 8). -/
def Obligations.DetokUnitAppendsText : Prop :=
  ∀ (s : State) (b : Byte), s.hfault = false →
    let digits : List Char := ['0', '1', '2', '3', '4', '5', '6', '7', '8', '9', 'A', 'B', 'C', 'D', 'E', 'F']
    (s.dtPfx = false →
      exec .dtNul s = .next s ∧
      exec (.dtPrint b) s = .next { s with dtOut := s.dtOut ++ [Char.ofNat b.toNat] } ∧
      exec (.dtOptok b) s = .next { s with dtOut := s.dtOut ++ Config.params.opTokens b } ∧
      exec (.dtOptok 0x84) s = .next { s with dtOut := s.dtOut ++ ['E', 'L', 'S', 'E'] } ∧
      exec .dtFnpfx s = .next { s with dtPfx := true } ∧
      ∃ h l, digits[b.toNat / 16]? = some h ∧ digits[b.toNat % 16]? = some l ∧
        exec (.dtEsc b) s = .next { s with dtOut := s.dtOut ++ ['\\', 'x', h, l] }) ∧
    (s.dtPfx = true → exec (.dtFn b) s = .next
      (if 0x80 ≤ b.toNat ∧ b.toNat < 0x80 + Config.params.fnCount then
        { s with dtOut := s.dtOut ++ Config.params.fnTokens b, dtPfx := false }
      else { s with hfault := true, hfaultCode := 6, dtOut := [], dtPfx := false }))

/-- R260 against R104 and R105: a Detok call is the run of its content's units. The run of the units leaves the call's
text; where the call raises DETOK_FN_RANGE the run has raised it, and where it raises DETOK_TRUNC_PREFIX the run ends
awaiting the byte after a 0xFF. The output and the pending 0xFF of the run are fields of the model (log 8). -/
def Obligations.DetokIsRunOfUnits : Prop :=
  ∀ (s : State) (x : List Byte), s.hfault = false → s.dtOut = [] → s.dtPfx = false →
    ∃ t, execAll (unitsOf false x) s = .next t ∧
      match detok Config.params x with
      | .ok text => t = { s with dtOut := text }
      | .error c => t.hfault = true ∧ t.hfaultCode = 6 ∧ c = 6 ∨ t.hfault = false ∧ t.dtPfx = true ∧ c = 7

/-! ## Frames and stimuli -/

/-- R95, R96, R178, R185 to R189: a Data frame with the right checksum, its bits fed to a record searching for sync
with an empty window, is appended with the payload it carries, for every payload and every trailing byte. -/
def Obligations.DataFrameIsAppended : Prop :=
  ∀ (s : State) (bs : List Byte) (lead : Byte), bs.length ≤ 255 → Live s → s.blk.state = 0 → s.blk.shift = 0 →
    Memory.wf s.blk.payload → s.seqLen < Config.params.seqCap →
    ∃ b t, execAll (feed ([0x3C, 0x01, BitVec.ofNat 8 bs.length] ++ bs ++ [frameChecksum 0x01 bs, lead])) s = .next t ∧
      t = { s with blk := b, active := false, seq := storeAt Block.fresh s.seq s.seqLen b, seqLen := s.seqLen + 1 } ∧
      b.state = 12 ∧ b.btype = 2 ∧ b.len.toNat = bs.length ∧ memTake b.payload bs.length = bs ∧
      b.ck = frameChecksum 0x01 bs ∧ b.ckrx = frameChecksum 0x01 bs

/-- R188, R303: the same frame with any other checksum byte raises INTEGRITY, and the block is never appended. -/
def Obligations.WrongChecksumRaisesIntegrity : Prop :=
  ∀ (s : State) (bs : List Byte) (c lead : Byte), bs.length ≤ 255 → Live s → s.blk.state = 0 → s.blk.shift = 0 →
    c ≠ frameChecksum 0x01 bs →
    ∃ t, execAll (feed ([0x3C, 0x01, BitVec.ofNat 8 bs.length] ++ bs ++ [c, lead])) s = .next t ∧
      t.fault = true ∧ t.faultCode = 1 ∧ t.blk.state = 10 ∧ t.blk.ckrx = c ∧
      t.seq = s.seq ∧ t.seqLen = s.seqLen ∧ t.outPending = 0 ∧ t.active = true

/-- R99, R179 to R184, R189, R310: a Name frame is appended with its fields, its length 13, and raises the NAME event;
an EndOfFile frame raises the PROGRAM event. -/
def Obligations.NameAndEofFramesRaiseEvents : Prop :=
  ∀ (s : State) (n0 n1 n2 n3 n4 n5 n6 n7 ft as gp sh sl lh ll lead : Byte), Live s → s.blk.state = 0 →
    s.blk.shift = 0 → s.seqLen < Config.params.seqCap →
    let fields := [n0, n1, n2, n3, n4, n5, n6, n7, ft, as, gp, sh, sl, lh, ll]
    (∃ b t, execAll (feed ([0x3C, 0x00, 15] ++ fields ++ [frameChecksum 0x00 fields, lead])) s = .next t ∧
      t = { s with
        blk := b, active := false, seq := storeAt Block.fresh s.seq s.seqLen b, seqLen := s.seqLen + 1
        outPending := 1 } ∧
      b.state = 12 ∧ b.btype = 1 ∧ b.len = 13 ∧ b.name.toList = [n0, n1, n2, n3, n4, n5, n6, n7] ∧
      b.ftype = ft ∧ b.ascii = as ∧ b.gap = gp ∧ b.startAddr.toNat = 256 * sh.toNat + sl.toNat ∧
      b.loadAddr.toNat = 256 * lh.toNat + ll.toNat) ∧
    (∃ b t, execAll (feed [0x3C, 0xFF, 0x00, 0xFF, lead]) s = .next t ∧
      t = { s with
        blk := b, active := false, seq := storeAt Block.fresh s.seq s.seqLen b, seqLen := s.seqLen + 1
        outPending := 2 } ∧
      b.state = 12 ∧ b.btype = 3 ∧ b.len = 0)

/-- R133: the per-sample detector finds the crossings and the cycle lengths of the source's repeated forward scans. -/
def Obligations.DetectorEqualsSourceScan : Prop :=
  ∀ (xs : List Sample) (s : State), xs.length ≤ 2 ^ 32 - 1 → s.idx = 0 → s.lastX = 0 →
    (detectorRun xs s).map (fun c => (c.1.toNat, c.2.toNat)) = sourceScan xs

/-- R117: a stimulus of cycles of at least 2 samples between `START` and `END` has exactly the cycle lengths its items
name, after a first one of length 1. -/
def Obligations.StimulusHasItsCycles : Prop :=
  ∀ items : List Stim,
    (∀ i ∈ items, i ≠ .start ∧ i ≠ .finish ∧ (∀ v, i ≠ .one v) ∧ ∀ n ∈ i.cycles, 2 ≤ n) →
    (sourceScan (Stim.start.expand ++ items.flatMap Stim.expand ++ Stim.finish.expand)).map Prod.snd =
      1 :: items.flatMap Stim.cycles

/-! ## Encoding, step and invariant -/

/-- Every well-formed operation is decoded back from its encoding (log 2 for what the spec leaves of the layout). -/
def Obligations.DecodeInvertsEncode : Prop := ∀ i : Instr, WellFormed i = true → decode (encode i) = .ok i

/-- What decodes is the encoding of a well-formed operation, with the bytes after it not read: no two units of one
format that differ in a read bit are the same operation. -/
def Obligations.EncodeInvertsDecode : Prop :=
  ∀ (it : Item) (i : Instr), decode it = .ok i →
    WellFormed i = true ∧ it.fmt = (encode i).fmt ∧ ∃ rest, it.bytes = (encode i).bytes ++ rest

/-- R114, R110, R97, R104: a few words, their codes the spec's own, and the operations they are. The place and order of
the operand bytes are the model's choice (log 2), and so is the format of the bare table word (log 3). -/
def Obligations.SpecWordsDecode : Prop :=
  decode ⟨.portOp, [1, 0x18, 0xFC]⟩ = .ok (.samplePush (BitVec.ofInt 16 (-1000))) ∧
  decode ⟨.portOp, [3, 1, 30, 0, 0, 0]⟩ = .ok (.cfgWrite 1 30) ∧
  decode ⟨.fsmState, [12]⟩ = .ok .stDone ∧
  decode ⟨.typeByte, [0xFF]⟩ = .ok .typeEof ∧
  decode ⟨.typeByte, [0x07]⟩ = .ok (.typeInvalid 0x07) ∧
  decode ⟨.detokByte, [0xE0]⟩ = .ok (.dtEsc 0xE0) ∧
  decode ⟨.faultCode, [3]⟩ = .ok .fltStructBlocknum ∧
  decodeTableWord 8 5 = some .resetDeassert

/-- A queued unit that decodes is taken from the queue and its operation run (the queue is the model's, log 1). -/
def Obligations.StepRunsDecodedUnit : Prop :=
  ∀ (s : State) (it : Item) (rest : List Item) (i : Instr), s.queue = it :: rest → decode it = .ok i →
    step s = exec i { s with queue := rest }

/-- R345, R304, R346: with nothing queued, a run in progress handles the event that is pending or pushes `Sample(IDX)`.
Where none is in progress, the next sequence supplied is a new run from reset: RESET_ASSERT, unless the block is in reset,
and then the start of the run on it; with none supplied nothing happens. The sequences are fields of the model (log 1,
log 28). -/
def Obligations.StepFollowsBootSequence : Prop :=
  ∀ s : State, s.queue = [] →
    (s.rst = true ∨ runEnded s = true →
      (s.inputs = [] → step s = .next s) ∧
      (∀ xs rest, s.inputs = xs :: rest → xs.length ≤ 2 ^ 32 - 1 →
        (s.rst = false → step s = exec .resetAssert s) ∧
        (s.rst = true → step s = .next
          { s with
            rst := false, text := [], hfault := false, hfaultCode := 0, dtOut := [], dtPfx := false
            samples := xs, inputs := rest }))) ∧
    (s.rst = false → s.fault = false → s.hfault = false →
      (s.outPending = 1 → step s = exec .onName s) ∧
      (s.outPending = 2 → step s = exec .reconstruct s) ∧
      (s.outPending = 0 → ∀ x, s.samples[s.idx.toNat]? = some x → step s = exec (.samplePush x) s)) ∧
    (runEnded s = true ↔ s.rst = false ∧
      (s.fault = true ∨ s.hfault = true ∨ s.samples.length ≤ s.idx.toNat ∧ s.outPending = 0))

/-- The reset state meets the invariant (R343, R344; the values the spec leaves open are log 5, 6, 7, 8). -/
def Obligations.ResetMeetsInvariant : Prop := MachineInv State.reset

/-- Every step keeps the invariant: the checksum law of R188 in every state of the FSM, the index bounds of R38, R39 and
R64, the completed store, the event and fault registers. -/
def Obligations.StepKeepsInvariant : Prop := ∀ s t : State, MachineInv s → step s = .next t → MachineInv t

/-- From a state of the invariant no step meets an access that does not exist (R64, R28, R43; the model's faults are log 13). -/
def Obligations.StepNeverFaults : Prop := ∀ (s : State) (r : Fault), MachineInv s → step s ≠ .fault r

/-- R188, R100: in a state of the invariant the checksum byte is compared with the sum of type, received length and
payload or Name-field bytes: that byte and no other passes, and a block that reaches NeedLeadByte holds it twice. -/
def Obligations.OnlyTheRightChecksumPasses : Prop :=
  ∀ (s t : State) (v : Byte), MachineInv s → AtByte 10 s → exec (.stNeedCksum v) s = .next t →
    (v = fullSum s.blk → t.blk.state = 11 ∧ t.blk.ck = fullSum t.blk ∧ t.blk.ckrx = fullSum t.blk ∧ t.fault = false) ∧
    (v ≠ fullSum s.blk → t.fault = true ∧ t.faultCode = 1)

/-- R345, R307, R346: a sequence supplied is decoded by a run that ends: from any state of the invariant in reset, within
one step and two for each sample, the machine is in a run on it in which all samples are consumed with no event pending,
or an agent has faulted; and a run in progress ends within two steps for each sample. The sequences are fields of the
model (log 1, log 28). -/
def Obligations.RunEnds : Prop :=
  ∀ (s : State) (xs : List Sample) (rest : List (List Sample)), MachineInv s → s.queue = [] → xs.length ≤ 2 ^ 32 - 1 →
    (s.rst = true → s.inputs = xs :: rest →
      ∃ n t, n ≤ 2 * xs.length + 1 ∧ Sys2Proof.core.run n s = .next t ∧
        t.samples = xs ∧ t.inputs = rest ∧ runEnded t = true) ∧
    (s.rst = false → s.samples = xs →
      ∃ n t, n ≤ 2 * xs.length + 1 ∧ Sys2Proof.core.run n s = .next t ∧
        t.samples = xs ∧ t.inputs = s.inputs ∧ runEnded t = true)
end

