-- ==== Sys2Proof/Laws/Decode.lean ====
section
/-! SUPPORT. The decoder gives only well-formed operations. -/

namespace Sys2Proof

theorem checkOperands_ok {i j : Instr} (h : checkOperands i = .ok j) : j = i ∧ WellFormed j = true := by
  unfold checkOperands at h
  split at h
  · cases h; exact ⟨rfl, ‹_›⟩
  · cases h

theorem withByte_ok {mk : Byte → Instr} {l : List Byte} {i : Instr} (h : withByte mk l = .ok i) :
    ∃ v, i = mk v := by
  cases l with
  | nil => cases h
  | cons v _ => cases h; exact ⟨v, rfl⟩

theorem withCode_ok {mk : Code → Instr} {l : List Byte} {i : Instr} (h : withCode mk l = .ok i) :
    WellFormed i = true := by
  cases l with
  | nil => cases h
  | cons v _ =>
    simp only [withCode] at h
    split at h
    · exact (checkOperands_ok h).2
    · cases h

theorem withBit_ok {mk : Bool → Instr} {l : List Byte} {i : Instr} (h : withBit mk l = .ok i) :
    ∃ c, i = mk c := by
  cases l with
  | nil => cases h
  | cons v _ =>
    simp only [withBit] at h
    split at h
    · cases h; exact ⟨_, rfl⟩
    · split at h
      · cases h; exact ⟨_, rfl⟩
      · cases h

theorem withPair_ok {mk : BitVec 16 → Instr} {l : List Byte} {i : Instr} (h : withPair mk l = .ok i) :
    ∃ v, i = mk v := by
  match l, h with
  | lo :: hi :: _, h => cases h; exact ⟨_, rfl⟩

theorem withConfig_ok {l : List Byte} {i : Instr} (h : withConfig l = .ok i) : ∃ r v, i = .cfgWrite r v := by
  match l, h with
  | r :: b0 :: b1 :: b2 :: b3 :: _, h =>
    simp only [withConfig] at h
    split at h
    · cases h; exact ⟨_, _, rfl⟩
    · cases h

theorem decodePort_wf {n : Nat} {l : List Byte} {i : Instr} (h : decodePort n l = .ok i) : WellFormed i = true := by
  unfold decodePort at h
  split at h
  any_goals first | (cases h; done) | (cases h; rfl)
  · obtain ⟨v, rfl⟩ := withPair_ok h; rfl
  · obtain ⟨r, v, rfl⟩ := withConfig_ok h; rfl

theorem decodePair_wf {b : Byte} {l : List Byte} {i : Instr} (h : decodePair b l = .ok i) : WellFormed i = true := by
  match l, h with
  | _ :: _ :: _ :: _, h => exact (checkOperands_ok h).2

theorem decodeState_wf {n : Nat} {l : List Byte} {i : Instr} (h : decodeState n l = .ok i) : WellFormed i = true := by
  unfold decodeState at h
  split at h
  any_goals first | (cases h; done) | (cases h; rfl)
  all_goals (obtain ⟨v, rfl⟩ := withByte_ok h; rfl)

theorem decodeInternal_wf {n : Nat} {l : List Byte} {i : Instr} (h : decodeInternal n l = .ok i) :
    WellFormed i = true := by
  unfold decodeInternal at h
  split at h
  any_goals first | (cases h; done) | (cases h; rfl)
  · obtain ⟨v, rfl⟩ := withBit_ok h; rfl
  · exact withCode_ok h

theorem decodeRoutine_wf {n : Nat} {l : List Byte} {i : Instr} (h : decodeRoutine n l = .ok i) :
    WellFormed i = true := by
  unfold decodeRoutine at h
  split at h
  any_goals first | (cases h; done) | (cases h; rfl)
  · obtain ⟨v, rfl⟩ := withByte_ok h; rfl
  · obtain ⟨v, rfl⟩ := withPair_ok h; rfl
  · exact withCode_ok h

theorem decodeType_wf {b : Byte} {i : Instr} (h : decodeType b = .ok i) : WellFormed i = true := by
  unfold decodeType at h
  split_ifs at h <;> cases h <;> simp_all [WellFormed, isInvalidType]

theorem decodeDetok_wf {b : Byte} {i : Instr} (h : decodeDetok b = .ok i) : WellFormed i = true := by
  unfold decodeDetok at h
  split_ifs at h <;> cases h <;> simp_all [WellFormed, isEsc]

theorem decodeFault_wf {b : Byte} {i : Instr} (h : decodeFault b = .ok i) : WellFormed i = true := by
  unfold decodeFault at h
  generalize hn : b.toNat = n at h
  split at h
  any_goals first | (cases h; done) | (cases h; rfl)
  split_ifs at h
  cases h
  simp only [WellFormed, decide_eq_true_eq, BitVec.toNat_setWidth, hn]
  simp only [imp_false] at *
  omega

/-- What the decoder answers is well-formed. -/
theorem decode_wf {it : Item} {i : Instr} (h : decode it = .ok i) : WellFormed i = true := by
  obtain ⟨fmt, bytes⟩ := it
  cases bytes with
  | nil => cases h
  | cons c ops =>
    cases fmt <;> simp only [decode, decodeIn] at h
    case portOp => exact decodePort_wf h
    case samplePair => exact decodePair_wf h
    case classifiedBit => unfold decodeClassified at h; split at h <;> cases h <;> rfl
    case internal => exact decodeInternal_wf h
    case fsmState => exact decodeState_wf h
    case typeByte => exact decodeType_wf h
    case outPending => unfold decodeEvent at h; split at h <;> cases h <;> rfl
    case faultCode => exact decodeFault_wf h
    case hostRoutine => exact decodeRoutine_wf h
    case detokByte => exact decodeDetok_wf h
    all_goals first | (split_ifs at h <;> cases h <;> rfl) | (cases h; rfl)

end Sys2Proof
end

