-- ==== Sys2Proof/Laws/Memory.lean ====
section
/-! SUPPORT. The payload memory's operations keep its canonical form. -/

namespace Sys2Proof
namespace Machine

theorem memWrite_keys (m : Memory) (k : Nat) (v : Byte) {c : Host.Cell} (h : c ∈ memWrite m k v) :
    c ∈ m ∨ (c = (k, v) ∧ v ≠ 0) := by
  induction m with
  | nil =>
    simp only [memWrite] at h
    split at h
    · cases h
    · exact .inr ⟨List.mem_singleton.mp h, ‹_›⟩
  | cons a m ih =>
    simp only [memWrite] at h
    split at h
    · rcases List.mem_cons.mp h with h | h
      · exact .inl (by simp [h])
      · rcases ih h with h | h
        · exact .inl (by simp [h])
        · exact .inr h
    · split at h
      · split at h
        · exact .inl (by simp [h])
        · rcases List.mem_cons.mp h with h | h
          · exact .inr ⟨h, ‹_›⟩
          · exact .inl (by simp [h])
      · split at h
        · exact .inl h
        · rcases List.mem_cons.mp h with h | h
          · exact .inr ⟨h, ‹_›⟩
          · exact .inl h

theorem wf_nil : Memory.wf [] := by simp [Memory.wf]

theorem wf_tail {c : Host.Cell} {m : Memory} (h : Memory.wf (c :: m)) : Memory.wf m :=
  ⟨(List.pairwise_cons.mp h.1).2, fun d hd => h.2 d (List.mem_cons_of_mem _ hd)⟩

/-- MemWrite keeps the canonical form at an address inside `PAYLOAD` (R64). -/
theorem memWrite_wf {m : Memory} {k : Nat} {v : Byte} (h : Memory.wf m) (hk : k < payloadSize) :
    Memory.wf (memWrite m k v) := by
  refine ⟨?_, ?_⟩
  · induction m with
    | nil =>
      simp only [memWrite]
      split
      · exact List.Pairwise.nil
      · exact List.pairwise_singleton _ _
    | cons a m ih =>
      have hp := List.pairwise_cons.mp h.1
      simp only [memWrite]
      split
      · refine List.pairwise_cons.mpr ⟨fun c hc => ?_, ih (wf_tail h)⟩
        rcases memWrite_keys m k v hc with hc | ⟨rfl, _⟩
        · exact hp.1 c hc
        · assumption
      · split
        · split
          · exact hp.2
          · refine List.pairwise_cons.mpr ⟨fun c hc => ?_, hp.2⟩
            have := hp.1 c hc
            simp_all
        · split
          · exact h.1
          · refine List.pairwise_cons.mpr ⟨fun c hc => ?_, h.1⟩
            rcases List.mem_cons.mp hc with rfl | hc
            · simp only; omega
            · have := hp.1 c hc
              simp only; omega
  · intro c hc
    rcases memWrite_keys m k v hc with hc | ⟨rfl, hv⟩
    · exact h.2 c hc
    · exact ⟨hk, hv⟩

/-- The zero-fill of NeedLength keeps the canonical form (R178). -/
theorem memClear_wf {m : Memory} (n : Nat) (h : Memory.wf m) : Memory.wf (memClear m n) :=
  ⟨h.1.filter _, fun c hc => h.2 c (List.mem_filter.mp hc).1⟩

/-- Reset's payload is in canonical form. -/
theorem reset_payload_wf : Memory.wf State.reset.blk.payload := wf_nil

end Machine
end Sys2Proof
end

