-- ==== Sys2Proof/Laws/State.lean ====
section
/-! SUPPORT. One lemma per field per named update of the state, each true by unfolding the update once. -/

namespace Sys2Proof
namespace Machine

/-- The named constant as a numeral, for arithmetic (R9). -/
@[simp] theorem nameChars_eq : Config.nameChars = 8 := rfl

/-- The eighth name byte, as NeedName tests for it (R179). -/
theorem nidx_last_iff (n : BitVec 4) : n + 1 = BitVec.ofNat 4 Config.nameChars ↔ n.toNat = 7 := by
  rw [nameChars_eq]; bv_omega

@[simp] theorem onBlock_idx (f : Block → Block) (s : State) : (onBlock f s).idx = s.idx := rfl
@[simp] theorem onBlock_lastX (f : Block → Block) (s : State) : (onBlock f s).lastX = s.lastX := rfl
@[simp] theorem onBlock_prevNN (f : Block → Block) (s : State) : (onBlock f s).prevNN = s.prevNN := rfl
@[simp] theorem onBlock_oneLo (f : Block → Block) (s : State) : (onBlock f s).oneLo = s.oneLo := rfl
@[simp] theorem onBlock_oneHi (f : Block → Block) (s : State) : (onBlock f s).oneHi = s.oneHi := rfl
@[simp] theorem onBlock_zeroLo (f : Block → Block) (s : State) : (onBlock f s).zeroLo = s.zeroLo := rfl
@[simp] theorem onBlock_zeroHi (f : Block → Block) (s : State) : (onBlock f s).zeroHi = s.zeroHi := rfl
@[simp] theorem onBlock_active (f : Block → Block) (s : State) : (onBlock f s).active = s.active := rfl
@[simp] theorem onBlock_blk (f : Block → Block) (s : State) : (onBlock f s).blk = f s.blk := rfl
@[simp] theorem onBlock_seq (f : Block → Block) (s : State) : (onBlock f s).seq = s.seq := rfl
@[simp] theorem onBlock_seqLen (f : Block → Block) (s : State) : (onBlock f s).seqLen = s.seqLen := rfl
@[simp] theorem onBlock_outPending (f : Block → Block) (s : State) : (onBlock f s).outPending = s.outPending := rfl
@[simp] theorem onBlock_fault (f : Block → Block) (s : State) : (onBlock f s).fault = s.fault := rfl
@[simp] theorem onBlock_faultCode (f : Block → Block) (s : State) : (onBlock f s).faultCode = s.faultCode := rfl
@[simp] theorem onBlock_rst (f : Block → Block) (s : State) : (onBlock f s).rst = s.rst := rfl
@[simp] theorem onBlock_d (f : Block → Block) (s : State) : (onBlock f s).d = s.d := rfl
@[simp] theorem onBlock_bi (f : Block → Block) (s : State) : (onBlock f s).bi = s.bi := rfl
@[simp] theorem onBlock_pos (f : Block → Block) (s : State) : (onBlock f s).pos = s.pos := rfl
@[simp] theorem onBlock_ctr (f : Block → Block) (s : State) : (onBlock f s).ctr = s.ctr := rfl
@[simp] theorem onBlock_lbuf (f : Block → Block) (s : State) : (onBlock f s).lbuf = s.lbuf := rfl
@[simp] theorem onBlock_llen (f : Block → Block) (s : State) : (onBlock f s).llen = s.llen := rfl
@[simp] theorem onBlock_text (f : Block → Block) (s : State) : (onBlock f s).text = s.text := rfl
@[simp] theorem onBlock_hfault (f : Block → Block) (s : State) : (onBlock f s).hfault = s.hfault := rfl
@[simp] theorem onBlock_hfaultCode (f : Block → Block) (s : State) : (onBlock f s).hfaultCode = s.hfaultCode := rfl
@[simp] theorem onBlock_ln (f : Block → Block) (s : State) : (onBlock f s).ln = s.ln := rfl
@[simp] theorem onBlock_ret (f : Block → Block) (s : State) : (onBlock f s).ret = s.ret := rfl
@[simp] theorem onBlock_stop (f : Block → Block) (s : State) : (onBlock f s).stop = s.stop := rfl
@[simp] theorem onBlock_dtOut (f : Block → Block) (s : State) : (onBlock f s).dtOut = s.dtOut := rfl
@[simp] theorem onBlock_dtPfx (f : Block → Block) (s : State) : (onBlock f s).dtPfx = s.dtPfx := rfl
@[simp] theorem onBlock_queue (f : Block → Block) (s : State) : (onBlock f s).queue = s.queue := rfl
@[simp] theorem onBlock_samples (f : Block → Block) (s : State) : (onBlock f s).samples = s.samples := rfl
@[simp] theorem onBlock_inputs (f : Block → Block) (s : State) : (onBlock f s).inputs = s.inputs := rfl

@[simp] theorem allocate_idx (s : State) : (allocate s).idx = s.idx := rfl
@[simp] theorem allocate_lastX (s : State) : (allocate s).lastX = s.lastX := rfl
@[simp] theorem allocate_prevNN (s : State) : (allocate s).prevNN = s.prevNN := rfl
@[simp] theorem allocate_oneLo (s : State) : (allocate s).oneLo = s.oneLo := rfl
@[simp] theorem allocate_oneHi (s : State) : (allocate s).oneHi = s.oneHi := rfl
@[simp] theorem allocate_zeroLo (s : State) : (allocate s).zeroLo = s.zeroLo := rfl
@[simp] theorem allocate_zeroHi (s : State) : (allocate s).zeroHi = s.zeroHi := rfl
@[simp] theorem allocate_active (s : State) : (allocate s).active = true := rfl
@[simp] theorem allocate_blk (s : State) : (allocate s).blk = Block.fresh := rfl
@[simp] theorem allocate_seq (s : State) : (allocate s).seq = s.seq := rfl
@[simp] theorem allocate_seqLen (s : State) : (allocate s).seqLen = s.seqLen := rfl
@[simp] theorem allocate_outPending (s : State) : (allocate s).outPending = s.outPending := rfl
@[simp] theorem allocate_fault (s : State) : (allocate s).fault = s.fault := rfl
@[simp] theorem allocate_faultCode (s : State) : (allocate s).faultCode = s.faultCode := rfl
@[simp] theorem allocate_rst (s : State) : (allocate s).rst = s.rst := rfl
@[simp] theorem allocate_d (s : State) : (allocate s).d = s.d := rfl
@[simp] theorem allocate_bi (s : State) : (allocate s).bi = s.bi := rfl
@[simp] theorem allocate_pos (s : State) : (allocate s).pos = s.pos := rfl
@[simp] theorem allocate_ctr (s : State) : (allocate s).ctr = s.ctr := rfl
@[simp] theorem allocate_lbuf (s : State) : (allocate s).lbuf = s.lbuf := rfl
@[simp] theorem allocate_llen (s : State) : (allocate s).llen = s.llen := rfl
@[simp] theorem allocate_text (s : State) : (allocate s).text = s.text := rfl
@[simp] theorem allocate_hfault (s : State) : (allocate s).hfault = s.hfault := rfl
@[simp] theorem allocate_hfaultCode (s : State) : (allocate s).hfaultCode = s.hfaultCode := rfl
@[simp] theorem allocate_ln (s : State) : (allocate s).ln = s.ln := rfl
@[simp] theorem allocate_ret (s : State) : (allocate s).ret = s.ret := rfl
@[simp] theorem allocate_stop (s : State) : (allocate s).stop = s.stop := rfl
@[simp] theorem allocate_dtOut (s : State) : (allocate s).dtOut = s.dtOut := rfl
@[simp] theorem allocate_dtPfx (s : State) : (allocate s).dtPfx = s.dtPfx := rfl
@[simp] theorem allocate_queue (s : State) : (allocate s).queue = s.queue := rfl
@[simp] theorem allocate_samples (s : State) : (allocate s).samples = s.samples := rfl
@[simp] theorem allocate_inputs (s : State) : (allocate s).inputs = s.inputs := rfl

@[simp] theorem raiseBlock_idx (c : Code) (s : State) : (raiseBlock c s).idx = s.idx := rfl
@[simp] theorem raiseBlock_lastX (c : Code) (s : State) : (raiseBlock c s).lastX = s.lastX := rfl
@[simp] theorem raiseBlock_prevNN (c : Code) (s : State) : (raiseBlock c s).prevNN = s.prevNN := rfl
@[simp] theorem raiseBlock_oneLo (c : Code) (s : State) : (raiseBlock c s).oneLo = s.oneLo := rfl
@[simp] theorem raiseBlock_oneHi (c : Code) (s : State) : (raiseBlock c s).oneHi = s.oneHi := rfl
@[simp] theorem raiseBlock_zeroLo (c : Code) (s : State) : (raiseBlock c s).zeroLo = s.zeroLo := rfl
@[simp] theorem raiseBlock_zeroHi (c : Code) (s : State) : (raiseBlock c s).zeroHi = s.zeroHi := rfl
@[simp] theorem raiseBlock_active (c : Code) (s : State) : (raiseBlock c s).active = s.active := rfl
@[simp] theorem raiseBlock_blk (c : Code) (s : State) : (raiseBlock c s).blk = s.blk := rfl
@[simp] theorem raiseBlock_seq (c : Code) (s : State) : (raiseBlock c s).seq = s.seq := rfl
@[simp] theorem raiseBlock_seqLen (c : Code) (s : State) : (raiseBlock c s).seqLen = s.seqLen := rfl
@[simp] theorem raiseBlock_outPending (c : Code) (s : State) : (raiseBlock c s).outPending = s.outPending := rfl
@[simp] theorem raiseBlock_fault (c : Code) (s : State) : (raiseBlock c s).fault = true := rfl
@[simp] theorem raiseBlock_faultCode (c : Code) (s : State) : (raiseBlock c s).faultCode = c := rfl
@[simp] theorem raiseBlock_rst (c : Code) (s : State) : (raiseBlock c s).rst = s.rst := rfl
@[simp] theorem raiseBlock_d (c : Code) (s : State) : (raiseBlock c s).d = s.d := rfl
@[simp] theorem raiseBlock_bi (c : Code) (s : State) : (raiseBlock c s).bi = s.bi := rfl
@[simp] theorem raiseBlock_pos (c : Code) (s : State) : (raiseBlock c s).pos = s.pos := rfl
@[simp] theorem raiseBlock_ctr (c : Code) (s : State) : (raiseBlock c s).ctr = s.ctr := rfl
@[simp] theorem raiseBlock_lbuf (c : Code) (s : State) : (raiseBlock c s).lbuf = s.lbuf := rfl
@[simp] theorem raiseBlock_llen (c : Code) (s : State) : (raiseBlock c s).llen = s.llen := rfl
@[simp] theorem raiseBlock_text (c : Code) (s : State) : (raiseBlock c s).text = s.text := rfl
@[simp] theorem raiseBlock_hfault (c : Code) (s : State) : (raiseBlock c s).hfault = s.hfault := rfl
@[simp] theorem raiseBlock_hfaultCode (c : Code) (s : State) : (raiseBlock c s).hfaultCode = s.hfaultCode := rfl
@[simp] theorem raiseBlock_ln (c : Code) (s : State) : (raiseBlock c s).ln = s.ln := rfl
@[simp] theorem raiseBlock_ret (c : Code) (s : State) : (raiseBlock c s).ret = s.ret := rfl
@[simp] theorem raiseBlock_stop (c : Code) (s : State) : (raiseBlock c s).stop = s.stop := rfl
@[simp] theorem raiseBlock_dtOut (c : Code) (s : State) : (raiseBlock c s).dtOut = s.dtOut := rfl
@[simp] theorem raiseBlock_dtPfx (c : Code) (s : State) : (raiseBlock c s).dtPfx = s.dtPfx := rfl
@[simp] theorem raiseBlock_queue (c : Code) (s : State) : (raiseBlock c s).queue = s.queue := rfl
@[simp] theorem raiseBlock_samples (c : Code) (s : State) : (raiseBlock c s).samples = s.samples := rfl
@[simp] theorem raiseBlock_inputs (c : Code) (s : State) : (raiseBlock c s).inputs = s.inputs := rfl

@[simp] theorem raiseHost_idx (c : Code) (s : State) : (raiseHost c s).idx = s.idx := rfl
@[simp] theorem raiseHost_lastX (c : Code) (s : State) : (raiseHost c s).lastX = s.lastX := rfl
@[simp] theorem raiseHost_prevNN (c : Code) (s : State) : (raiseHost c s).prevNN = s.prevNN := rfl
@[simp] theorem raiseHost_oneLo (c : Code) (s : State) : (raiseHost c s).oneLo = s.oneLo := rfl
@[simp] theorem raiseHost_oneHi (c : Code) (s : State) : (raiseHost c s).oneHi = s.oneHi := rfl
@[simp] theorem raiseHost_zeroLo (c : Code) (s : State) : (raiseHost c s).zeroLo = s.zeroLo := rfl
@[simp] theorem raiseHost_zeroHi (c : Code) (s : State) : (raiseHost c s).zeroHi = s.zeroHi := rfl
@[simp] theorem raiseHost_active (c : Code) (s : State) : (raiseHost c s).active = s.active := rfl
@[simp] theorem raiseHost_blk (c : Code) (s : State) : (raiseHost c s).blk = s.blk := rfl
@[simp] theorem raiseHost_seq (c : Code) (s : State) : (raiseHost c s).seq = s.seq := rfl
@[simp] theorem raiseHost_seqLen (c : Code) (s : State) : (raiseHost c s).seqLen = s.seqLen := rfl
@[simp] theorem raiseHost_outPending (c : Code) (s : State) : (raiseHost c s).outPending = s.outPending := rfl
@[simp] theorem raiseHost_fault (c : Code) (s : State) : (raiseHost c s).fault = s.fault := rfl
@[simp] theorem raiseHost_faultCode (c : Code) (s : State) : (raiseHost c s).faultCode = s.faultCode := rfl
@[simp] theorem raiseHost_rst (c : Code) (s : State) : (raiseHost c s).rst = s.rst := rfl
@[simp] theorem raiseHost_d (c : Code) (s : State) : (raiseHost c s).d = s.d := rfl
@[simp] theorem raiseHost_bi (c : Code) (s : State) : (raiseHost c s).bi = s.bi := rfl
@[simp] theorem raiseHost_pos (c : Code) (s : State) : (raiseHost c s).pos = s.pos := rfl
@[simp] theorem raiseHost_ctr (c : Code) (s : State) : (raiseHost c s).ctr = s.ctr := rfl
@[simp] theorem raiseHost_lbuf (c : Code) (s : State) : (raiseHost c s).lbuf = s.lbuf := rfl
@[simp] theorem raiseHost_llen (c : Code) (s : State) : (raiseHost c s).llen = s.llen := rfl
@[simp] theorem raiseHost_text (c : Code) (s : State) : (raiseHost c s).text = s.text := rfl
@[simp] theorem raiseHost_hfault (c : Code) (s : State) : (raiseHost c s).hfault = true := rfl
@[simp] theorem raiseHost_hfaultCode (c : Code) (s : State) : (raiseHost c s).hfaultCode = c := rfl
@[simp] theorem raiseHost_ln (c : Code) (s : State) : (raiseHost c s).ln = s.ln := rfl
@[simp] theorem raiseHost_ret (c : Code) (s : State) : (raiseHost c s).ret = s.ret := rfl
@[simp] theorem raiseHost_stop (c : Code) (s : State) : (raiseHost c s).stop = s.stop := rfl
@[simp] theorem raiseHost_dtOut (c : Code) (s : State) : (raiseHost c s).dtOut = [] := rfl
@[simp] theorem raiseHost_dtPfx (c : Code) (s : State) : (raiseHost c s).dtPfx = false := rfl
@[simp] theorem raiseHost_queue (c : Code) (s : State) : (raiseHost c s).queue = s.queue := rfl
@[simp] theorem raiseHost_samples (c : Code) (s : State) : (raiseHost c s).samples = s.samples := rfl
@[simp] theorem raiseHost_inputs (c : Code) (s : State) : (raiseHost c s).inputs = s.inputs := rfl

@[simp] theorem print_idx (u : Text) (s : State) : (print u s).idx = s.idx := rfl
@[simp] theorem print_lastX (u : Text) (s : State) : (print u s).lastX = s.lastX := rfl
@[simp] theorem print_prevNN (u : Text) (s : State) : (print u s).prevNN = s.prevNN := rfl
@[simp] theorem print_oneLo (u : Text) (s : State) : (print u s).oneLo = s.oneLo := rfl
@[simp] theorem print_oneHi (u : Text) (s : State) : (print u s).oneHi = s.oneHi := rfl
@[simp] theorem print_zeroLo (u : Text) (s : State) : (print u s).zeroLo = s.zeroLo := rfl
@[simp] theorem print_zeroHi (u : Text) (s : State) : (print u s).zeroHi = s.zeroHi := rfl
@[simp] theorem print_active (u : Text) (s : State) : (print u s).active = s.active := rfl
@[simp] theorem print_blk (u : Text) (s : State) : (print u s).blk = s.blk := rfl
@[simp] theorem print_seq (u : Text) (s : State) : (print u s).seq = s.seq := rfl
@[simp] theorem print_seqLen (u : Text) (s : State) : (print u s).seqLen = s.seqLen := rfl
@[simp] theorem print_outPending (u : Text) (s : State) : (print u s).outPending = s.outPending := rfl
@[simp] theorem print_fault (u : Text) (s : State) : (print u s).fault = s.fault := rfl
@[simp] theorem print_faultCode (u : Text) (s : State) : (print u s).faultCode = s.faultCode := rfl
@[simp] theorem print_rst (u : Text) (s : State) : (print u s).rst = s.rst := rfl
@[simp] theorem print_d (u : Text) (s : State) : (print u s).d = s.d := rfl
@[simp] theorem print_bi (u : Text) (s : State) : (print u s).bi = s.bi := rfl
@[simp] theorem print_pos (u : Text) (s : State) : (print u s).pos = s.pos := rfl
@[simp] theorem print_ctr (u : Text) (s : State) : (print u s).ctr = s.ctr := rfl
@[simp] theorem print_lbuf (u : Text) (s : State) : (print u s).lbuf = s.lbuf := rfl
@[simp] theorem print_llen (u : Text) (s : State) : (print u s).llen = s.llen := rfl
@[simp] theorem print_text (u : Text) (s : State) : (print u s).text = s.text ++ u := rfl
@[simp] theorem print_hfault (u : Text) (s : State) : (print u s).hfault = s.hfault := rfl
@[simp] theorem print_hfaultCode (u : Text) (s : State) : (print u s).hfaultCode = s.hfaultCode := rfl
@[simp] theorem print_ln (u : Text) (s : State) : (print u s).ln = s.ln := rfl
@[simp] theorem print_ret (u : Text) (s : State) : (print u s).ret = s.ret := rfl
@[simp] theorem print_stop (u : Text) (s : State) : (print u s).stop = s.stop := rfl
@[simp] theorem print_dtOut (u : Text) (s : State) : (print u s).dtOut = s.dtOut := rfl
@[simp] theorem print_dtPfx (u : Text) (s : State) : (print u s).dtPfx = s.dtPfx := rfl
@[simp] theorem print_queue (u : Text) (s : State) : (print u s).queue = s.queue := rfl
@[simp] theorem print_samples (u : Text) (s : State) : (print u s).samples = s.samples := rfl
@[simp] theorem print_inputs (u : Text) (s : State) : (print u s).inputs = s.inputs := rfl

@[simp] theorem startRun_idx (s : State) : (startRun s).idx = s.idx := rfl
@[simp] theorem startRun_lastX (s : State) : (startRun s).lastX = s.lastX := rfl
@[simp] theorem startRun_prevNN (s : State) : (startRun s).prevNN = s.prevNN := rfl
@[simp] theorem startRun_oneLo (s : State) : (startRun s).oneLo = s.oneLo := rfl
@[simp] theorem startRun_oneHi (s : State) : (startRun s).oneHi = s.oneHi := rfl
@[simp] theorem startRun_zeroLo (s : State) : (startRun s).zeroLo = s.zeroLo := rfl
@[simp] theorem startRun_zeroHi (s : State) : (startRun s).zeroHi = s.zeroHi := rfl
@[simp] theorem startRun_active (s : State) : (startRun s).active = s.active := rfl
@[simp] theorem startRun_blk (s : State) : (startRun s).blk = s.blk := rfl
@[simp] theorem startRun_seq (s : State) : (startRun s).seq = s.seq := rfl
@[simp] theorem startRun_seqLen (s : State) : (startRun s).seqLen = s.seqLen := rfl
@[simp] theorem startRun_outPending (s : State) : (startRun s).outPending = s.outPending := rfl
@[simp] theorem startRun_fault (s : State) : (startRun s).fault = s.fault := rfl
@[simp] theorem startRun_faultCode (s : State) : (startRun s).faultCode = s.faultCode := rfl
@[simp] theorem startRun_rst (s : State) : (startRun s).rst = s.rst := rfl
@[simp] theorem startRun_d (s : State) : (startRun s).d = s.d := rfl
@[simp] theorem startRun_bi (s : State) : (startRun s).bi = s.bi := rfl
@[simp] theorem startRun_pos (s : State) : (startRun s).pos = s.pos := rfl
@[simp] theorem startRun_ctr (s : State) : (startRun s).ctr = s.ctr := rfl
@[simp] theorem startRun_lbuf (s : State) : (startRun s).lbuf = s.lbuf := rfl
@[simp] theorem startRun_llen (s : State) : (startRun s).llen = s.llen := rfl
@[simp] theorem startRun_text (s : State) : (startRun s).text = [] := rfl
@[simp] theorem startRun_hfault (s : State) : (startRun s).hfault = false := rfl
@[simp] theorem startRun_hfaultCode (s : State) : (startRun s).hfaultCode = 0 := rfl
@[simp] theorem startRun_ln (s : State) : (startRun s).ln = s.ln := rfl
@[simp] theorem startRun_ret (s : State) : (startRun s).ret = s.ret := rfl
@[simp] theorem startRun_stop (s : State) : (startRun s).stop = s.stop := rfl
@[simp] theorem startRun_dtOut (s : State) : (startRun s).dtOut = [] := rfl
@[simp] theorem startRun_dtPfx (s : State) : (startRun s).dtPfx = false := rfl
@[simp] theorem startRun_queue (s : State) : (startRun s).queue = s.queue := rfl
@[simp] theorem startRun_samples (s : State) : (startRun s).samples = s.samples := rfl
@[simp] theorem startRun_inputs (s : State) : (startRun s).inputs = s.inputs := rfl

@[simp] theorem endCall_idx (s : State) : (endCall s).idx = s.idx := rfl
@[simp] theorem endCall_lastX (s : State) : (endCall s).lastX = s.lastX := rfl
@[simp] theorem endCall_prevNN (s : State) : (endCall s).prevNN = s.prevNN := rfl
@[simp] theorem endCall_oneLo (s : State) : (endCall s).oneLo = s.oneLo := rfl
@[simp] theorem endCall_oneHi (s : State) : (endCall s).oneHi = s.oneHi := rfl
@[simp] theorem endCall_zeroLo (s : State) : (endCall s).zeroLo = s.zeroLo := rfl
@[simp] theorem endCall_zeroHi (s : State) : (endCall s).zeroHi = s.zeroHi := rfl
@[simp] theorem endCall_active (s : State) : (endCall s).active = s.active := rfl
@[simp] theorem endCall_blk (s : State) : (endCall s).blk = s.blk := rfl
@[simp] theorem endCall_seq (s : State) : (endCall s).seq = s.seq := rfl
@[simp] theorem endCall_seqLen (s : State) : (endCall s).seqLen = s.seqLen := rfl
@[simp] theorem endCall_outPending (s : State) : (endCall s).outPending = s.outPending := rfl
@[simp] theorem endCall_fault (s : State) : (endCall s).fault = s.fault := rfl
@[simp] theorem endCall_faultCode (s : State) : (endCall s).faultCode = s.faultCode := rfl
@[simp] theorem endCall_rst (s : State) : (endCall s).rst = s.rst := rfl
@[simp] theorem endCall_d (s : State) : (endCall s).d = s.d := rfl
@[simp] theorem endCall_bi (s : State) : (endCall s).bi = s.bi := rfl
@[simp] theorem endCall_pos (s : State) : (endCall s).pos = s.pos := rfl
@[simp] theorem endCall_ctr (s : State) : (endCall s).ctr = s.ctr := rfl
@[simp] theorem endCall_lbuf (s : State) : (endCall s).lbuf = s.lbuf := rfl
@[simp] theorem endCall_llen (s : State) : (endCall s).llen = s.llen := rfl
@[simp] theorem endCall_text (s : State) : (endCall s).text = s.text := rfl
@[simp] theorem endCall_hfault (s : State) : (endCall s).hfault = s.hfault := rfl
@[simp] theorem endCall_hfaultCode (s : State) : (endCall s).hfaultCode = s.hfaultCode := rfl
@[simp] theorem endCall_ln (s : State) : (endCall s).ln = s.ln := rfl
@[simp] theorem endCall_ret (s : State) : (endCall s).ret = s.ret := rfl
@[simp] theorem endCall_stop (s : State) : (endCall s).stop = s.stop := rfl
@[simp] theorem endCall_dtOut (s : State) : (endCall s).dtOut = [] := rfl
@[simp] theorem endCall_dtPfx (s : State) : (endCall s).dtPfx = false := rfl
@[simp] theorem endCall_queue (s : State) : (endCall s).queue = s.queue := rfl
@[simp] theorem endCall_samples (s : State) : (endCall s).samples = s.samples := rfl
@[simp] theorem endCall_inputs (s : State) : (endCall s).inputs = s.inputs := rfl

@[simp] theorem takeInput_idx (xs : List Sample) (r : List (List Sample)) (s : State) : (takeInput xs r s).idx = s.idx := rfl
@[simp] theorem takeInput_lastX (xs : List Sample) (r : List (List Sample)) (s : State) : (takeInput xs r s).lastX = s.lastX := rfl
@[simp] theorem takeInput_prevNN (xs : List Sample) (r : List (List Sample)) (s : State) : (takeInput xs r s).prevNN = s.prevNN := rfl
@[simp] theorem takeInput_oneLo (xs : List Sample) (r : List (List Sample)) (s : State) : (takeInput xs r s).oneLo = s.oneLo := rfl
@[simp] theorem takeInput_oneHi (xs : List Sample) (r : List (List Sample)) (s : State) : (takeInput xs r s).oneHi = s.oneHi := rfl
@[simp] theorem takeInput_zeroLo (xs : List Sample) (r : List (List Sample)) (s : State) : (takeInput xs r s).zeroLo = s.zeroLo := rfl
@[simp] theorem takeInput_zeroHi (xs : List Sample) (r : List (List Sample)) (s : State) : (takeInput xs r s).zeroHi = s.zeroHi := rfl
@[simp] theorem takeInput_active (xs : List Sample) (r : List (List Sample)) (s : State) : (takeInput xs r s).active = s.active := rfl
@[simp] theorem takeInput_blk (xs : List Sample) (r : List (List Sample)) (s : State) : (takeInput xs r s).blk = s.blk := rfl
@[simp] theorem takeInput_seq (xs : List Sample) (r : List (List Sample)) (s : State) : (takeInput xs r s).seq = s.seq := rfl
@[simp] theorem takeInput_seqLen (xs : List Sample) (r : List (List Sample)) (s : State) : (takeInput xs r s).seqLen = s.seqLen := rfl
@[simp] theorem takeInput_outPending (xs : List Sample) (r : List (List Sample)) (s : State) : (takeInput xs r s).outPending = s.outPending := rfl
@[simp] theorem takeInput_fault (xs : List Sample) (r : List (List Sample)) (s : State) : (takeInput xs r s).fault = s.fault := rfl
@[simp] theorem takeInput_faultCode (xs : List Sample) (r : List (List Sample)) (s : State) : (takeInput xs r s).faultCode = s.faultCode := rfl
@[simp] theorem takeInput_rst (xs : List Sample) (r : List (List Sample)) (s : State) : (takeInput xs r s).rst = s.rst := rfl
@[simp] theorem takeInput_d (xs : List Sample) (r : List (List Sample)) (s : State) : (takeInput xs r s).d = s.d := rfl
@[simp] theorem takeInput_bi (xs : List Sample) (r : List (List Sample)) (s : State) : (takeInput xs r s).bi = s.bi := rfl
@[simp] theorem takeInput_pos (xs : List Sample) (r : List (List Sample)) (s : State) : (takeInput xs r s).pos = s.pos := rfl
@[simp] theorem takeInput_ctr (xs : List Sample) (r : List (List Sample)) (s : State) : (takeInput xs r s).ctr = s.ctr := rfl
@[simp] theorem takeInput_lbuf (xs : List Sample) (r : List (List Sample)) (s : State) : (takeInput xs r s).lbuf = s.lbuf := rfl
@[simp] theorem takeInput_llen (xs : List Sample) (r : List (List Sample)) (s : State) : (takeInput xs r s).llen = s.llen := rfl
@[simp] theorem takeInput_text (xs : List Sample) (r : List (List Sample)) (s : State) : (takeInput xs r s).text = s.text := rfl
@[simp] theorem takeInput_hfault (xs : List Sample) (r : List (List Sample)) (s : State) : (takeInput xs r s).hfault = s.hfault := rfl
@[simp] theorem takeInput_hfaultCode (xs : List Sample) (r : List (List Sample)) (s : State) : (takeInput xs r s).hfaultCode = s.hfaultCode := rfl
@[simp] theorem takeInput_ln (xs : List Sample) (r : List (List Sample)) (s : State) : (takeInput xs r s).ln = s.ln := rfl
@[simp] theorem takeInput_ret (xs : List Sample) (r : List (List Sample)) (s : State) : (takeInput xs r s).ret = s.ret := rfl
@[simp] theorem takeInput_stop (xs : List Sample) (r : List (List Sample)) (s : State) : (takeInput xs r s).stop = s.stop := rfl
@[simp] theorem takeInput_dtOut (xs : List Sample) (r : List (List Sample)) (s : State) : (takeInput xs r s).dtOut = s.dtOut := rfl
@[simp] theorem takeInput_dtPfx (xs : List Sample) (r : List (List Sample)) (s : State) : (takeInput xs r s).dtPfx = s.dtPfx := rfl
@[simp] theorem takeInput_queue (xs : List Sample) (r : List (List Sample)) (s : State) : (takeInput xs r s).queue = s.queue := rfl
@[simp] theorem takeInput_samples (xs : List Sample) (r : List (List Sample)) (s : State) : (takeInput xs r s).samples = xs := rfl
@[simp] theorem takeInput_inputs (xs : List Sample) (r : List (List Sample)) (s : State) : (takeInput xs r s).inputs = r := rfl

@[simp] theorem supply_idx (xs : List Sample) (s : State) : (supply xs s).idx = s.idx := rfl
@[simp] theorem supply_lastX (xs : List Sample) (s : State) : (supply xs s).lastX = s.lastX := rfl
@[simp] theorem supply_prevNN (xs : List Sample) (s : State) : (supply xs s).prevNN = s.prevNN := rfl
@[simp] theorem supply_oneLo (xs : List Sample) (s : State) : (supply xs s).oneLo = s.oneLo := rfl
@[simp] theorem supply_oneHi (xs : List Sample) (s : State) : (supply xs s).oneHi = s.oneHi := rfl
@[simp] theorem supply_zeroLo (xs : List Sample) (s : State) : (supply xs s).zeroLo = s.zeroLo := rfl
@[simp] theorem supply_zeroHi (xs : List Sample) (s : State) : (supply xs s).zeroHi = s.zeroHi := rfl
@[simp] theorem supply_active (xs : List Sample) (s : State) : (supply xs s).active = s.active := rfl
@[simp] theorem supply_blk (xs : List Sample) (s : State) : (supply xs s).blk = s.blk := rfl
@[simp] theorem supply_seq (xs : List Sample) (s : State) : (supply xs s).seq = s.seq := rfl
@[simp] theorem supply_seqLen (xs : List Sample) (s : State) : (supply xs s).seqLen = s.seqLen := rfl
@[simp] theorem supply_outPending (xs : List Sample) (s : State) : (supply xs s).outPending = s.outPending := rfl
@[simp] theorem supply_fault (xs : List Sample) (s : State) : (supply xs s).fault = s.fault := rfl
@[simp] theorem supply_faultCode (xs : List Sample) (s : State) : (supply xs s).faultCode = s.faultCode := rfl
@[simp] theorem supply_rst (xs : List Sample) (s : State) : (supply xs s).rst = s.rst := rfl
@[simp] theorem supply_d (xs : List Sample) (s : State) : (supply xs s).d = s.d := rfl
@[simp] theorem supply_bi (xs : List Sample) (s : State) : (supply xs s).bi = s.bi := rfl
@[simp] theorem supply_pos (xs : List Sample) (s : State) : (supply xs s).pos = s.pos := rfl
@[simp] theorem supply_ctr (xs : List Sample) (s : State) : (supply xs s).ctr = s.ctr := rfl
@[simp] theorem supply_lbuf (xs : List Sample) (s : State) : (supply xs s).lbuf = s.lbuf := rfl
@[simp] theorem supply_llen (xs : List Sample) (s : State) : (supply xs s).llen = s.llen := rfl
@[simp] theorem supply_text (xs : List Sample) (s : State) : (supply xs s).text = s.text := rfl
@[simp] theorem supply_hfault (xs : List Sample) (s : State) : (supply xs s).hfault = s.hfault := rfl
@[simp] theorem supply_hfaultCode (xs : List Sample) (s : State) : (supply xs s).hfaultCode = s.hfaultCode := rfl
@[simp] theorem supply_ln (xs : List Sample) (s : State) : (supply xs s).ln = s.ln := rfl
@[simp] theorem supply_ret (xs : List Sample) (s : State) : (supply xs s).ret = s.ret := rfl
@[simp] theorem supply_stop (xs : List Sample) (s : State) : (supply xs s).stop = s.stop := rfl
@[simp] theorem supply_dtOut (xs : List Sample) (s : State) : (supply xs s).dtOut = s.dtOut := rfl
@[simp] theorem supply_dtPfx (xs : List Sample) (s : State) : (supply xs s).dtPfx = s.dtPfx := rfl
@[simp] theorem supply_queue (xs : List Sample) (s : State) : (supply xs s).queue = s.queue := rfl
@[simp] theorem supply_samples (xs : List Sample) (s : State) : (supply xs s).samples = s.samples := rfl
@[simp] theorem supply_inputs (xs : List Sample) (s : State) : (supply xs s).inputs = s.inputs ++ [xs] := rfl

@[simp] theorem popQueue_idx (s : State) : (popQueue s).idx = s.idx := rfl
@[simp] theorem popQueue_lastX (s : State) : (popQueue s).lastX = s.lastX := rfl
@[simp] theorem popQueue_prevNN (s : State) : (popQueue s).prevNN = s.prevNN := rfl
@[simp] theorem popQueue_oneLo (s : State) : (popQueue s).oneLo = s.oneLo := rfl
@[simp] theorem popQueue_oneHi (s : State) : (popQueue s).oneHi = s.oneHi := rfl
@[simp] theorem popQueue_zeroLo (s : State) : (popQueue s).zeroLo = s.zeroLo := rfl
@[simp] theorem popQueue_zeroHi (s : State) : (popQueue s).zeroHi = s.zeroHi := rfl
@[simp] theorem popQueue_active (s : State) : (popQueue s).active = s.active := rfl
@[simp] theorem popQueue_blk (s : State) : (popQueue s).blk = s.blk := rfl
@[simp] theorem popQueue_seq (s : State) : (popQueue s).seq = s.seq := rfl
@[simp] theorem popQueue_seqLen (s : State) : (popQueue s).seqLen = s.seqLen := rfl
@[simp] theorem popQueue_outPending (s : State) : (popQueue s).outPending = s.outPending := rfl
@[simp] theorem popQueue_fault (s : State) : (popQueue s).fault = s.fault := rfl
@[simp] theorem popQueue_faultCode (s : State) : (popQueue s).faultCode = s.faultCode := rfl
@[simp] theorem popQueue_rst (s : State) : (popQueue s).rst = s.rst := rfl
@[simp] theorem popQueue_d (s : State) : (popQueue s).d = s.d := rfl
@[simp] theorem popQueue_bi (s : State) : (popQueue s).bi = s.bi := rfl
@[simp] theorem popQueue_pos (s : State) : (popQueue s).pos = s.pos := rfl
@[simp] theorem popQueue_ctr (s : State) : (popQueue s).ctr = s.ctr := rfl
@[simp] theorem popQueue_lbuf (s : State) : (popQueue s).lbuf = s.lbuf := rfl
@[simp] theorem popQueue_llen (s : State) : (popQueue s).llen = s.llen := rfl
@[simp] theorem popQueue_text (s : State) : (popQueue s).text = s.text := rfl
@[simp] theorem popQueue_hfault (s : State) : (popQueue s).hfault = s.hfault := rfl
@[simp] theorem popQueue_hfaultCode (s : State) : (popQueue s).hfaultCode = s.hfaultCode := rfl
@[simp] theorem popQueue_ln (s : State) : (popQueue s).ln = s.ln := rfl
@[simp] theorem popQueue_ret (s : State) : (popQueue s).ret = s.ret := rfl
@[simp] theorem popQueue_stop (s : State) : (popQueue s).stop = s.stop := rfl
@[simp] theorem popQueue_dtOut (s : State) : (popQueue s).dtOut = s.dtOut := rfl
@[simp] theorem popQueue_dtPfx (s : State) : (popQueue s).dtPfx = s.dtPfx := rfl
@[simp] theorem popQueue_queue (s : State) : (popQueue s).queue = s.queue.tail := rfl
@[simp] theorem popQueue_samples (s : State) : (popQueue s).samples = s.samples := rfl
@[simp] theorem popQueue_inputs (s : State) : (popQueue s).inputs = s.inputs := rfl

@[simp] theorem presentFirst_idx (it : Item) (s : State) : (presentFirst it s).idx = s.idx := rfl
@[simp] theorem presentFirst_lastX (it : Item) (s : State) : (presentFirst it s).lastX = s.lastX := rfl
@[simp] theorem presentFirst_prevNN (it : Item) (s : State) : (presentFirst it s).prevNN = s.prevNN := rfl
@[simp] theorem presentFirst_oneLo (it : Item) (s : State) : (presentFirst it s).oneLo = s.oneLo := rfl
@[simp] theorem presentFirst_oneHi (it : Item) (s : State) : (presentFirst it s).oneHi = s.oneHi := rfl
@[simp] theorem presentFirst_zeroLo (it : Item) (s : State) : (presentFirst it s).zeroLo = s.zeroLo := rfl
@[simp] theorem presentFirst_zeroHi (it : Item) (s : State) : (presentFirst it s).zeroHi = s.zeroHi := rfl
@[simp] theorem presentFirst_active (it : Item) (s : State) : (presentFirst it s).active = s.active := rfl
@[simp] theorem presentFirst_blk (it : Item) (s : State) : (presentFirst it s).blk = s.blk := rfl
@[simp] theorem presentFirst_seq (it : Item) (s : State) : (presentFirst it s).seq = s.seq := rfl
@[simp] theorem presentFirst_seqLen (it : Item) (s : State) : (presentFirst it s).seqLen = s.seqLen := rfl
@[simp] theorem presentFirst_outPending (it : Item) (s : State) : (presentFirst it s).outPending = s.outPending := rfl
@[simp] theorem presentFirst_fault (it : Item) (s : State) : (presentFirst it s).fault = s.fault := rfl
@[simp] theorem presentFirst_faultCode (it : Item) (s : State) : (presentFirst it s).faultCode = s.faultCode := rfl
@[simp] theorem presentFirst_rst (it : Item) (s : State) : (presentFirst it s).rst = s.rst := rfl
@[simp] theorem presentFirst_d (it : Item) (s : State) : (presentFirst it s).d = s.d := rfl
@[simp] theorem presentFirst_bi (it : Item) (s : State) : (presentFirst it s).bi = s.bi := rfl
@[simp] theorem presentFirst_pos (it : Item) (s : State) : (presentFirst it s).pos = s.pos := rfl
@[simp] theorem presentFirst_ctr (it : Item) (s : State) : (presentFirst it s).ctr = s.ctr := rfl
@[simp] theorem presentFirst_lbuf (it : Item) (s : State) : (presentFirst it s).lbuf = s.lbuf := rfl
@[simp] theorem presentFirst_llen (it : Item) (s : State) : (presentFirst it s).llen = s.llen := rfl
@[simp] theorem presentFirst_text (it : Item) (s : State) : (presentFirst it s).text = s.text := rfl
@[simp] theorem presentFirst_hfault (it : Item) (s : State) : (presentFirst it s).hfault = s.hfault := rfl
@[simp] theorem presentFirst_hfaultCode (it : Item) (s : State) : (presentFirst it s).hfaultCode = s.hfaultCode := rfl
@[simp] theorem presentFirst_ln (it : Item) (s : State) : (presentFirst it s).ln = s.ln := rfl
@[simp] theorem presentFirst_ret (it : Item) (s : State) : (presentFirst it s).ret = s.ret := rfl
@[simp] theorem presentFirst_stop (it : Item) (s : State) : (presentFirst it s).stop = s.stop := rfl
@[simp] theorem presentFirst_dtOut (it : Item) (s : State) : (presentFirst it s).dtOut = s.dtOut := rfl
@[simp] theorem presentFirst_dtPfx (it : Item) (s : State) : (presentFirst it s).dtPfx = s.dtPfx := rfl
@[simp] theorem presentFirst_queue (it : Item) (s : State) : (presentFirst it s).queue = it :: s.queue := rfl
@[simp] theorem presentFirst_samples (it : Item) (s : State) : (presentFirst it s).samples = s.samples := rfl
@[simp] theorem presentFirst_inputs (it : Item) (s : State) : (presentFirst it s).inputs = s.inputs := rfl

@[simp] theorem sentinelTest_idx (s : State) : (sentinelTest s).idx = s.idx := rfl
@[simp] theorem sentinelTest_lastX (s : State) : (sentinelTest s).lastX = s.lastX := rfl
@[simp] theorem sentinelTest_prevNN (s : State) : (sentinelTest s).prevNN = s.prevNN := rfl
@[simp] theorem sentinelTest_oneLo (s : State) : (sentinelTest s).oneLo = s.oneLo := rfl
@[simp] theorem sentinelTest_oneHi (s : State) : (sentinelTest s).oneHi = s.oneHi := rfl
@[simp] theorem sentinelTest_zeroLo (s : State) : (sentinelTest s).zeroLo = s.zeroLo := rfl
@[simp] theorem sentinelTest_zeroHi (s : State) : (sentinelTest s).zeroHi = s.zeroHi := rfl
@[simp] theorem sentinelTest_active (s : State) : (sentinelTest s).active = s.active := rfl
@[simp] theorem sentinelTest_blk (s : State) : (sentinelTest s).blk = s.blk := rfl
@[simp] theorem sentinelTest_seq (s : State) : (sentinelTest s).seq = s.seq := rfl
@[simp] theorem sentinelTest_seqLen (s : State) : (sentinelTest s).seqLen = s.seqLen := rfl
@[simp] theorem sentinelTest_outPending (s : State) : (sentinelTest s).outPending = s.outPending := rfl
@[simp] theorem sentinelTest_fault (s : State) : (sentinelTest s).fault = s.fault := rfl
@[simp] theorem sentinelTest_faultCode (s : State) : (sentinelTest s).faultCode = s.faultCode := rfl
@[simp] theorem sentinelTest_rst (s : State) : (sentinelTest s).rst = s.rst := rfl
@[simp] theorem sentinelTest_d (s : State) : (sentinelTest s).d = s.d := rfl
@[simp] theorem sentinelTest_bi (s : State) : (sentinelTest s).bi = s.bi := rfl
@[simp] theorem sentinelTest_pos (s : State) : (sentinelTest s).pos = s.pos := rfl
@[simp] theorem sentinelTest_ctr (s : State) : (sentinelTest s).ctr = s.ctr := rfl
@[simp] theorem sentinelTest_lbuf (s : State) : (sentinelTest s).lbuf = s.lbuf := rfl
@[simp] theorem sentinelTest_llen (s : State) : (sentinelTest s).llen = s.llen := rfl
@[simp] theorem sentinelTest_text (s : State) : (sentinelTest s).text = s.text := rfl
@[simp] theorem sentinelTest_hfault (s : State) : (sentinelTest s).hfault = s.hfault := rfl
@[simp] theorem sentinelTest_hfaultCode (s : State) : (sentinelTest s).hfaultCode = s.hfaultCode := rfl
@[simp] theorem sentinelTest_ln (s : State) : (sentinelTest s).ln = s.ln := rfl
@[simp] theorem sentinelTest_ret (s : State) : (sentinelTest s).ret = s.ret := rfl
@[simp] theorem sentinelTest_stop (s : State) : (sentinelTest s).stop = atSentinel s := rfl
@[simp] theorem sentinelTest_dtOut (s : State) : (sentinelTest s).dtOut = s.dtOut := rfl
@[simp] theorem sentinelTest_dtPfx (s : State) : (sentinelTest s).dtPfx = s.dtPfx := rfl
@[simp] theorem sentinelTest_queue (s : State) : (sentinelTest s).queue = s.queue := rfl
@[simp] theorem sentinelTest_samples (s : State) : (sentinelTest s).samples = s.samples := rfl
@[simp] theorem sentinelTest_inputs (s : State) : (sentinelTest s).inputs = s.inputs := rfl

@[simp] theorem resetBlock_idx (s : State) : (resetBlock s).idx = 0 := rfl
@[simp] theorem resetBlock_lastX (s : State) : (resetBlock s).lastX = 0 := rfl
@[simp] theorem resetBlock_prevNN (s : State) : (resetBlock s).prevNN = false := rfl
@[simp] theorem resetBlock_oneLo (s : State) : (resetBlock s).oneLo = Config.oneLoReset := rfl
@[simp] theorem resetBlock_oneHi (s : State) : (resetBlock s).oneHi = Config.oneHiReset := rfl
@[simp] theorem resetBlock_zeroLo (s : State) : (resetBlock s).zeroLo = Config.zeroLoReset := rfl
@[simp] theorem resetBlock_zeroHi (s : State) : (resetBlock s).zeroHi = Config.infinity := rfl
@[simp] theorem resetBlock_active (s : State) : (resetBlock s).active = false := rfl
@[simp] theorem resetBlock_blk (s : State) : (resetBlock s).blk = s.blk := rfl
@[simp] theorem resetBlock_seq (s : State) : (resetBlock s).seq = s.seq := rfl
@[simp] theorem resetBlock_seqLen (s : State) : (resetBlock s).seqLen = 0 := rfl
@[simp] theorem resetBlock_outPending (s : State) : (resetBlock s).outPending = evNone := rfl
@[simp] theorem resetBlock_fault (s : State) : (resetBlock s).fault = false := rfl
@[simp] theorem resetBlock_faultCode (s : State) : (resetBlock s).faultCode = 0 := rfl
@[simp] theorem resetBlock_rst (s : State) : (resetBlock s).rst = true := rfl
@[simp] theorem resetBlock_d (s : State) : (resetBlock s).d = s.d := rfl
@[simp] theorem resetBlock_bi (s : State) : (resetBlock s).bi = s.bi := rfl
@[simp] theorem resetBlock_pos (s : State) : (resetBlock s).pos = s.pos := rfl
@[simp] theorem resetBlock_ctr (s : State) : (resetBlock s).ctr = s.ctr := rfl
@[simp] theorem resetBlock_lbuf (s : State) : (resetBlock s).lbuf = s.lbuf := rfl
@[simp] theorem resetBlock_llen (s : State) : (resetBlock s).llen = s.llen := rfl
@[simp] theorem resetBlock_text (s : State) : (resetBlock s).text = s.text := rfl
@[simp] theorem resetBlock_hfault (s : State) : (resetBlock s).hfault = s.hfault := rfl
@[simp] theorem resetBlock_hfaultCode (s : State) : (resetBlock s).hfaultCode = s.hfaultCode := rfl
@[simp] theorem resetBlock_ln (s : State) : (resetBlock s).ln = s.ln := rfl
@[simp] theorem resetBlock_ret (s : State) : (resetBlock s).ret = s.ret := rfl
@[simp] theorem resetBlock_stop (s : State) : (resetBlock s).stop = s.stop := rfl
@[simp] theorem resetBlock_dtOut (s : State) : (resetBlock s).dtOut = [] := rfl
@[simp] theorem resetBlock_dtPfx (s : State) : (resetBlock s).dtPfx = false := rfl
@[simp] theorem resetBlock_queue (s : State) : (resetBlock s).queue = s.queue := rfl
@[simp] theorem resetBlock_samples (s : State) : (resetBlock s).samples = s.samples := rfl
@[simp] theorem resetBlock_inputs (s : State) : (resetBlock s).inputs = s.inputs := rfl

@[simp] theorem commitBlock_idx (s : State) : (commitBlock s).idx = s.idx := rfl
@[simp] theorem commitBlock_lastX (s : State) : (commitBlock s).lastX = s.lastX := rfl
@[simp] theorem commitBlock_prevNN (s : State) : (commitBlock s).prevNN = s.prevNN := rfl
@[simp] theorem commitBlock_oneLo (s : State) : (commitBlock s).oneLo = s.oneLo := rfl
@[simp] theorem commitBlock_oneHi (s : State) : (commitBlock s).oneHi = s.oneHi := rfl
@[simp] theorem commitBlock_zeroLo (s : State) : (commitBlock s).zeroLo = s.zeroLo := rfl
@[simp] theorem commitBlock_zeroHi (s : State) : (commitBlock s).zeroHi = s.zeroHi := rfl
@[simp] theorem commitBlock_active (s : State) : (commitBlock s).active = false := rfl
@[simp] theorem commitBlock_blk (s : State) : (commitBlock s).blk = s.blk := rfl
@[simp] theorem commitBlock_seq (s : State) : (commitBlock s).seq = storeAt Block.fresh s.seq s.seqLen s.blk := rfl
@[simp] theorem commitBlock_seqLen (s : State) : (commitBlock s).seqLen = s.seqLen + 1 := rfl
@[simp] theorem commitBlock_outPending (s : State) : (commitBlock s).outPending = eventOf s.blk.btype s.outPending := rfl
@[simp] theorem commitBlock_fault (s : State) : (commitBlock s).fault = s.fault := rfl
@[simp] theorem commitBlock_faultCode (s : State) : (commitBlock s).faultCode = s.faultCode := rfl
@[simp] theorem commitBlock_rst (s : State) : (commitBlock s).rst = s.rst := rfl
@[simp] theorem commitBlock_d (s : State) : (commitBlock s).d = s.d := rfl
@[simp] theorem commitBlock_bi (s : State) : (commitBlock s).bi = s.bi := rfl
@[simp] theorem commitBlock_pos (s : State) : (commitBlock s).pos = s.pos := rfl
@[simp] theorem commitBlock_ctr (s : State) : (commitBlock s).ctr = s.ctr := rfl
@[simp] theorem commitBlock_lbuf (s : State) : (commitBlock s).lbuf = s.lbuf := rfl
@[simp] theorem commitBlock_llen (s : State) : (commitBlock s).llen = s.llen := rfl
@[simp] theorem commitBlock_text (s : State) : (commitBlock s).text = s.text := rfl
@[simp] theorem commitBlock_hfault (s : State) : (commitBlock s).hfault = s.hfault := rfl
@[simp] theorem commitBlock_hfaultCode (s : State) : (commitBlock s).hfaultCode = s.hfaultCode := rfl
@[simp] theorem commitBlock_ln (s : State) : (commitBlock s).ln = s.ln := rfl
@[simp] theorem commitBlock_ret (s : State) : (commitBlock s).ret = s.ret := rfl
@[simp] theorem commitBlock_stop (s : State) : (commitBlock s).stop = s.stop := rfl
@[simp] theorem commitBlock_dtOut (s : State) : (commitBlock s).dtOut = s.dtOut := rfl
@[simp] theorem commitBlock_dtPfx (s : State) : (commitBlock s).dtPfx = s.dtPfx := rfl
@[simp] theorem commitBlock_queue (s : State) : (commitBlock s).queue = s.queue := rfl
@[simp] theorem commitBlock_samples (s : State) : (commitBlock s).samples = s.samples := rfl
@[simp] theorem commitBlock_inputs (s : State) : (commitBlock s).inputs = s.inputs := rfl

end Machine
end Sys2Proof
end

