-- ==== Sys2Proof/Laws/Ops.lean ====
section
/-! SUPPORT. For each shared operation of the block, one lemma that says once everything it can do. -/

namespace Sys2Proof
namespace Machine

/-! ## Conditions -/

theorem accepts_iff (s : State) : accepts s = true ↔ Accepting s := by
  simp [accepts, evNone, and_assoc]

theorem live_iff (s : State) : live s = true ↔ Live s := by simp [live, accepts_iff]

theorem atByte_iff (c : Code) (s : State) : atByte c s = true ↔ AtByte c s := by
  simp [atByte, live_iff, and_assoc]

theorem crosses_iff (b : Bool) (x : Sample) (s : State) : crosses b x s = true ↔ Crossing b x s := by
  simp [crosses, nonNeg, and_assoc]

theorem hostBusy_iff (s : State) : hostBusy s = true ↔ s.outPending ≠ 0 ∧ s.hfault = false := by
  simp [hostBusy, evNone]

theorem handling_iff (s : State) : handling s = true ↔ Handling s := by simp [handling, evProgram]

theorem ackAccepted_iff (s : State) :
    ackAccepted s = true ↔ s.rst = false ∧ s.fault = false ∧ s.outPending ≠ 0 := by
  simp [ackAccepted, evNone, and_assoc]

/-! ## Memory and store -/

/-- A read after a write: the written byte at its entry, every other entry as before (R64). -/
theorem memRead_memWrite {m : Memory} (h : m.Pairwise (fun a b => a.1 < b.1)) (k j : Nat) (v : Byte) :
    memRead (memWrite m k v) j = if j = k then v else memRead m j := by
  have low : ∀ {m : Memory} {j : Nat}, (∀ c ∈ m, j < c.1) → memRead m j = 0 := by
    intro m j hm
    induction m with
    | nil => rfl
    | cons c m ih =>
      have := hm c (by simp)
      simp only [memRead]
      rw [if_neg (by omega), ih fun d hd => hm d (by simp [hd])]
  induction m with
  | nil =>
    simp only [memWrite]
    split <;> by_cases hj : j = k <;> simp [memRead, Ne.symm, *]
  | cons c m ih =>
    obtain ⟨h1, h2⟩ := List.pairwise_cons.mp h
    simp only [memWrite]
    split
    · simp only [memRead, ih h2]
      split <;> split <;> simp_all
    · split
      · split
        · subst_vars
          by_cases hj : j = c.1
          · simp [hj, low h1]
          · simp [memRead, hj, Ne.symm hj]
        · subst_vars
          by_cases hj : j = c.1
          · simp [hj, memRead]
          · simp [memRead, hj, Ne.symm hj]
      · have : ∀ d ∈ c :: m, k < d.1 := by
          intro d hd
          rcases List.mem_cons.mp hd with rfl | hd
          · omega
          · have := h1 d hd; omega
        split
        · subst_vars
          by_cases hj : j = k
          · simp [hj, low this]
          · simp [hj]
        · by_cases hj : j = k
          · simp [hj, memRead]
          · simp [memRead, hj, Ne.symm hj]

/-- The zero-fill of NeedLength: entries below the length read 0, the others as before (R178). -/
theorem memRead_memClear (m : Memory) (n k : Nat) : memRead (memClear m n) k = if k < n then 0 else memRead m k := by
  induction m with
  | nil => simp [memClear, memRead]
  | cons c m ih =>
    simp only [memClear, List.filter_cons] at ih ⊢
    by_cases hc : n ≤ c.1
    · simp only [hc, decide_true, if_true, memRead, ih]
      by_cases h : c.1 = k
      · rw [if_pos h, if_pos h, if_neg (by omega)]
      · simp [h]
    · simp only [hc, decide_false, Bool.false_eq_true, if_false, memRead, ih]
      by_cases h : c.1 = k
      · rw [if_pos (by omega), if_pos (by omega)]
      · simp [h]

/-- The entry written to a store is the one read there (R65). -/
theorem storeAt_getElem? {α : Type} (d x : α) (l : List α) (k : Nat) : (storeAt d l k x)[k]? = some x := by
  unfold storeAt
  split
  · simp [*]
  · have : (l ++ List.replicate (k - l.length) d).length = k := by simp; omega
    rw [List.getElem?_append_right (by omega), this]
    simp

/-- The entries below the one written are as before, the ones never written blank (R65). -/
theorem storeAt_getElem?_lt {α : Type} (d x : α) (l : List α) {k j : Nat} (h : j < k) :
    ((storeAt d l k x)[j]?).getD d = (l[j]?).getD d := by
  unfold storeAt
  split
  · rw [List.getElem?_set_ne (by omega)]
  · by_cases hj : j < l.length
    · rw [List.append_assoc, List.getElem?_append_left hj]
    · rw [List.append_assoc, List.getElem?_append_right (by omega), List.getElem?_append_left (by simp; omega),
        List.getElem?_eq_none (l := l) (by omega)]
      rw [List.getElem?_replicate, if_pos (by omega)]
      rfl

theorem storeAt_length {α : Type} (d x : α) (l : List α) (k : Nat) : (storeAt d l k x).length = max l.length (k + 1) := by
  unfold storeAt
  split <;> simp <;> omega

theorem storeAt_take {α : Type} (d x : α) (l : List α) {k : Nat} (h : k ≤ l.length) :
    (storeAt d l k x).take (k + 1) = l.take k ++ [x] := by
  unfold storeAt
  split
  · rw [List.take_add_one, List.getElem?_set_self (by assumption), List.take_set_of_le (Nat.le_refl k)]; rfl
  · have : k = l.length := by omega
    subst this
    simp

/-! ## Bits -/

/-- A bit enters at bit 7, every other bit moves down by one (R68, R171). -/
theorem insertBit_getLsbD (sh : Byte) (b : Bool) (i : Nat) :
    (insertBit sh b).getLsbD i = if i = 7 then b else sh.getLsbD (i + 1) := by
  have h8 : sh.getLsbD 8 = false := BitVec.getLsbD_of_ge sh 8 (by omega)
  by_cases hi : i < 8
  · have : i = 0 ∨ i = 1 ∨ i = 2 ∨ i = 3 ∨ i = 4 ∨ i = 5 ∨ i = 6 ∨ i = 7 := by omega
    rcases this with rfl | rfl | rfl | rfl | rfl | rfl | rfl | rfl <;> cases b <;>
      simp [insertBit, Nat.add_comm]
  · rw [BitVec.getLsbD_of_ge _ _ (by omega), if_neg (by omega), BitVec.getLsbD_of_ge _ _ (by omega)]

/-- The eight bits of a byte, inserted in order of arrival, leave the byte, whatever was there (R68, R174). -/
theorem insertBits_byte (sh x : Byte) : (bitsOf x).foldl insertBit sh = x := by
  refine BitVec.eq_of_getLsbD_eq fun i hi => ?_
  have : i = 0 ∨ i = 1 ∨ i = 2 ∨ i = 3 ∨ i = 4 ∨ i = 5 ∨ i = 6 ∨ i = 7 := by omega
  rcases this with rfl | rfl | rfl | rfl | rfl | rfl | rfl | rfl <;>
    simp only [bitsOf, List.foldl, insertBit_getLsbD] <;> rfl

/-! ## Block steps -/

/-- Everything a handler can do: change the record alone, raise INTEGRITY or RESOURCE on it, or commit it; or meet an
access that does not exist (R173). -/
theorem byteHandler_cases (p : Params) (v : Byte) (s : State) :
    (∃ r, byteHandler p v s = .fault r) ∨
    (∃ b, byteHandler p v s = .next { s with blk := b }) ∨
    (∃ b c, byteHandler p v s = .next { s with blk := b, fault := true, faultCode := c } ∧ isBlockCode c = true) ∨
    (∃ b, s.seqLen < p.seqCap ∧ byteHandler p v s = .next (commitBlock { s with blk := b })) := by
  unfold byteHandler
  split
  any_goals exact .inr (.inl ⟨_, rfl⟩)
  · unfold needName; split
    · exact .inr (.inl ⟨_, rfl⟩)
    · exact .inl ⟨_, rfl⟩
  · unfold needData; split
    · exact .inr (.inl ⟨_, rfl⟩)
    · exact .inl ⟨_, rfl⟩
  · by_cases h : v = s.blk.ck
    · exact .inr (.inl ⟨_, congrArg _ (if_pos h)⟩)
    · exact .inr (.inr (.inl ⟨_, 1, congrArg _ (if_neg h), rfl⟩))
  · by_cases h : p.seqCap ≤ s.seqLen
    · exact .inr (.inr (.inl ⟨_, 2, congrArg _ (if_pos h), rfl⟩))
    · exact .inr (.inr (.inr ⟨_, by omega, congrArg _ (if_neg h)⟩))
  · exact .inl ⟨_, rfl⟩

/-- Everything a bit step can do: the same outcomes as a handler (R172, R190). -/
theorem bitStep_cases (p : Params) (c : Bool) (s : State) :
    (∃ r, bitStep p c s = .fault r) ∨
    (∃ b, bitStep p c s = .next { s with blk := b }) ∨
    (∃ b c', bitStep p c s = .next { s with blk := b, fault := true, faultCode := c' } ∧ isBlockCode c' = true) ∨
    (∃ b, s.seqLen < p.seqCap ∧ bitStep p c s = .next (commitBlock { s with blk := b })) := by
  unfold bitStep
  split
  · exact .inr (.inr (.inl ⟨s.blk, 8, rfl, rfl⟩))
  · simp only [onBlock]
    split
    · exact .inr (.inl ⟨_, rfl⟩)
    · unfold countBit
      split
      · exact byteHandler_cases p _ _
      · exact .inr (.inl ⟨_, rfl⟩)

/-- A bit in NeedSyncByte is inserted and the window checked (R175). -/
theorem bitStep_sync {p : Params} {c : Bool} {s : State} (h : s.blk.state = 0) :
    bitStep p c s = .next (onBlock (fun b => syncCheck { b with shift := insertBit b.shift c }) s) := by
  simp [bitStep, illegalState, h, Block.mode, stNeedSyncByte, onBlock]

/-- A bit in an aligned state is inserted and counted (R172). -/
theorem bitStep_aligned {p : Params} {c : Bool} {s : State} (h0 : 1 ≤ s.blk.state.toNat) (h1 : s.blk.state.toNat ≤ 12) :
    bitStep p c s = countBit p (onBlock (fun b => { b with shift := insertBit b.shift c }) s) := by
  have hne : ¬ s.blk.state = 0#4 := by intro h; rw [h] at h0; exact absurd h0 (by decide)
  have : illegalState s.blk.state = false := by simp [illegalState]; omega
  simp [bitStep, this, Block.mode, stNeedSyncByte, onBlock, hne]

/-- A bit met in a reserved state code raises ILLEGAL_STATE before it is inserted (R190). -/
theorem bitStep_illegal {p : Params} {c : Bool} {s : State} (h : 13 ≤ s.blk.state.toNat) :
    bitStep p c s = .next (raiseBlock fcIllegalState s) := by
  simp [bitStep, illegalState, h]

/-- Everything a delivery can do (R130 step 4, R152). -/
theorem deliver_cases (p : Params) (c : BitClass) (s : State) :
    (∃ r, deliver p c s = .fault r) ∨
    (∃ b, deliver p c s = .next { s with blk := b }) ∨
    (∃ b c', deliver p c s = .next { s with blk := b, fault := true, faultCode := c' } ∧ isBlockCode c' = true) ∨
    (∃ b, s.seqLen < p.seqCap ∧ deliver p c s = .next (commitBlock { s with blk := b })) := by
  cases c
  · exact bitStep_cases p false s
  · exact bitStep_cases p true s
  · exact .inr (.inl ⟨s.blk, rfl⟩)

/-- A meaning guarded by `atState` either runs or has no effect. -/
theorem atState_cases (c : Code) (f : State → Res) (s : State) :
    (AtByte c s ∧ atState c f s = f s) ∨ atState c f s = .next s := by
  unfold atState
  split
  · exact .inl ⟨(atByte_iff c s).mp ‹_›, rfl⟩
  · exact .inr rfl

theorem atState_of_atByte {c : Code} {f : State → Res} {s : State} (h : AtByte c s) : atState c f s = f s := by
  simp only [atState, (atByte_iff c s).mpr h, if_true]

/-- What `advance` does on a crossing: `PREV_NN`, `IDX` and `LAST_X` move, the cycle length is the distance (R132). -/
theorem advance_of_crossing {b : Bool} {x : Sample} {s : State} (h : Crossing b x s) :
    advance b x s = ({ s with prevNN := nonNeg x, idx := s.idx + 1, lastX := s.idx }, some (s.idx - s.lastX)) := by
  simp only [advance, (crosses_iff b x s).mpr h, if_true]

/-- What `advance` does elsewhere: `PREV_NN` and `IDX` move (R131). -/
theorem advance_of_no_crossing {b : Bool} {x : Sample} {s : State} (h : ¬ Crossing b x s) :
    advance b x s = ({ s with prevNN := nonNeg x, idx := s.idx + 1 }, none) := by
  rw [← crosses_iff] at h
  exact if_neg h

/-- Everything EV_ACK can do (R311). -/
theorem ackEvent_cases (s : State) :
    ackEvent s = s ∨
    (s.rst = false ∧ s.fault = false ∧ s.outPending ≠ 0 ∧
      ackEvent s = { s with seqLen := if s.outPending = 2 then 0 else s.seqLen, outPending := 0 }) := by
  unfold ackEvent
  split
  · obtain ⟨a, b, c⟩ := (ackAccepted_iff s).mp ‹_›
    exact .inr ⟨a, b, c, rfl⟩
  · exact .inl rfl

end Machine
end Sys2Proof
end

