-- ==== Sys2Proof/Laws/Host.lean ====
section
/-! SUPPORT. The host's routines keep to the host's own state: every register of the block and the inputs are as
before, but for the EV_ACK a handled event ends in. They leave the virtual stream as RECONSTRUCT's first line makes it. -/

namespace Sys2Proof
namespace Machine

/-- Nothing changed but fields of the host. -/
abbrev hostOnly (s t : State) : Prop := sameBlock s t ∧ sameInputs s t

theorem hostOnly_refl (s : State) : hostOnly s s := by simp [hostOnly, sameBlock, sameInputs]

theorem hostOnly_trans {s t u : State} (h : hostOnly s t) (h' : hostOnly t u) : hostOnly s u := by
  simp only [hostOnly, sameBlock, sameInputs] at *
  obtain ⟨⟨a, b, c, d, e, f, g, h, i, j, k, l, m, n, o⟩, p, q⟩ := h
  obtain ⟨⟨a', b', c', d', e', f', g', h', i', j', k', l', m', n', o'⟩, p', q'⟩ := h'
  refine ⟨⟨?_, ?_, ?_, ?_, ?_, ?_, ?_, ?_, ?_, ?_, ?_, ?_, ?_, ?_, ?_⟩, ?_, ?_⟩ <;> simp [*]

/-- A raise in the host (R304). -/
theorem raiseHost_hostOnly (c : Code) (s : State) : hostOnly s (raiseHost c s) := hostOnly_refl s

theorem hostThen_hostOnly {f : State → State} (h : ∀ s, hostOnly s (f s)) (s : State) : hostOnly s (hostThen f s) := by
  unfold hostThen
  split
  · exact hostOnly_refl s
  · exact h s

theorem normaliseLoop_hostOnly (n : Nat) (s : State) : hostOnly s (normaliseLoop n s) := by
  induction n generalizing s with
  | zero => exact hostOnly_refl s
  | succ n ih =>
    unfold normaliseLoop
    split
    · exact ih _
    · exact hostOnly_refl s

theorem normalise_hostOnly (s : State) : hostOnly s (normalise s) := normaliseLoop_hostOnly _ s

theorem checkBlockNumber_hostOnly (b : Byte) (s : State) : hostOnly s (checkBlockNumber b s) := by
  unfold checkBlockNumber
  dsimp only
  split <;> exact hostOnly_refl s

theorem nextByte_hostOnly (s : State) : hostOnly s (nextByte s) := by
  unfold nextByte
  dsimp only
  split <;> exact normalise_hostOnly s

theorem lineHeader_hostOnly (s : State) : hostOnly s (lineHeader s) := by
  have h1 := nextByte_hostOnly s
  have h2 := hostOnly_trans h1 (hostThen_hostOnly nextByte_hostOnly _)
  have h3 := hostOnly_trans h2 (hostThen_hostOnly nextByte_hostOnly _)
  have h4 := hostOnly_trans h3 (hostThen_hostOnly nextByte_hostOnly _)
  refine hostOnly_trans h4 (hostThen_hostOnly (fun t => ?_) _)
  exact hostOnly_refl t

theorem readContentLoop_hostOnly (p : Params) (n : Nat) (s : State) : hostOnly s (readContentLoop p n s) := by
  induction n generalizing s with
  | zero => exact hostOnly_refl s
  | succ n ih =>
    unfold readContentLoop
    dsimp only
    split
    · exact nextByte_hostOnly s
    · split
      · exact nextByte_hostOnly s
      · refine hostOnly_trans (nextByte_hostOnly s) ?_
        exact ih _

theorem readContent_hostOnly (p : Params) (s : State) : hostOnly s (readContent p s) :=
  readContentLoop_hostOnly p _ { s with llen := 0 }

theorem emitLine_hostOnly (p : Params) (ln : BitVec 16) (s : State) : hostOnly s (emitLine p ln s) := by
  unfold emitLine
  split <;> exact hostOnly_refl s

theorem sentinelTest_hostOnly (s : State) : hostOnly s (sentinelTest s) := hostOnly_refl s

theorem lineBody_hostOnly (p : Params) (b : Byte) (s : State) : hostOnly s (lineBody p b s) := by
  have h1 := hostOnly_trans (checkBlockNumber_hostOnly b s) (hostThen_hostOnly lineHeader_hostOnly _)
  have h2 := hostOnly_trans h1 (hostThen_hostOnly (readContent_hostOnly p) _)
  exact hostOnly_trans h2 (hostThen_hostOnly (fun t => emitLine_hostOnly p t.ln t) _)

theorem lineLoop_hostOnly (p : Params) (n : Nat) (s : State) : hostOnly s (lineLoop p n s) := by
  induction n generalizing s with
  | zero => exact hostOnly_refl s
  | succ n ih =>
    unfold lineLoop
    dsimp only
    split
    · exact normalise_hostOnly s
    · split
      · exact normalise_hostOnly s
      · have h := hostOnly_trans (normalise_hostOnly s) (sentinelTest_hostOnly (normalise s))
        exact hostOnly_trans (hostOnly_trans h (lineBody_hostOnly p _ _)) (hostThen_hostOnly ih _)

theorem beginProgram_hostOnly (s : State) : hostOnly s (beginProgram s) := by
  simp [hostOnly, sameBlock, sameInputs, beginProgram]

/-- RECONSTRUCT is a change of the host's own state, and then EV_ACK or, after a host fault, nothing (R232, R304). -/
theorem reconstruct_cases (p : Params) (s : State) :
    ∃ t, hostOnly s t ∧ (t.hfault = true ∧ reconstruct p s = t ∨ t.hfault = false ∧ reconstruct p s = ackEvent t) := by
  have e : reconstruct p s =
      hostThen ackEvent (lineLoop p (remaining (beginProgram s) + 1) (beginProgram s)) := rfl
  have f := hostOnly_trans (beginProgram_hostOnly s) (lineLoop_hostOnly p (remaining (beginProgram s) + 1) (beginProgram s))
  generalize lineLoop p (remaining (beginProgram s) + 1) (beginProgram s) = t at e f
  refine ⟨t, f, ?_⟩
  rw [e, hostThen]
  cases t.hfault <;> simp

theorem emitUnit_hostOnly (t : Text) (s : State) : hostOnly s (emitUnit t s) := by
  unfold emitUnit
  split <;> exact hostOnly_refl s

/-! The routines of RECONSTRUCT read the virtual stream and leave it as it is (R242). -/

theorem hostThen_d {f : State → State} (h : ∀ s, (f s).d = s.d) (s : State) : (hostThen f s).d = s.d := by
  unfold hostThen
  split
  · rfl
  · exact h s

@[simp] theorem normaliseLoop_d (n : Nat) (s : State) : (normaliseLoop n s).d = s.d := by
  induction n generalizing s with
  | zero => rfl
  | succ n ih =>
    unfold normaliseLoop
    split
    · exact ih _
    · rfl

@[simp] theorem normalise_d (s : State) : (normalise s).d = s.d := normaliseLoop_d _ s

@[simp] theorem checkBlockNumber_d (b : Byte) (s : State) : (checkBlockNumber b s).d = s.d := by
  unfold checkBlockNumber
  dsimp only
  split <;> rfl

@[simp] theorem nextByte_d (s : State) : (nextByte s).d = s.d := by
  unfold nextByte
  dsimp only
  split <;> exact normalise_d s

@[simp] theorem lineHeader_d (s : State) : (lineHeader s).d = s.d := by
  unfold lineHeader
  dsimp only
  exact (hostThen_d (by exact fun _ => rfl) _).trans (by simp only [hostThen_d nextByte_d, nextByte_d])

@[simp] theorem readContentLoop_d (p : Params) (n : Nat) (s : State) : (readContentLoop p n s).d = s.d := by
  induction n generalizing s with
  | zero => rfl
  | succ n ih =>
    unfold readContentLoop
    dsimp only
    split
    · exact nextByte_d s
    · split
      · exact nextByte_d s
      · exact (ih _).trans (nextByte_d s)

@[simp] theorem readContent_d (p : Params) (s : State) : (readContent p s).d = s.d := readContentLoop_d p _ _

@[simp] theorem emitLine_d (p : Params) (ln : BitVec 16) (s : State) : (emitLine p ln s).d = s.d := by
  unfold emitLine
  split <;> rfl

@[simp] theorem lineBody_d (p : Params) (b : Byte) (s : State) : (lineBody p b s).d = s.d := by
  unfold lineBody
  dsimp only
  rw [hostThen_d fun t => emitLine_d p t.ln t, hostThen_d (readContent_d p), hostThen_d lineHeader_d, checkBlockNumber_d]

@[simp] theorem lineLoop_d (p : Params) (n : Nat) (s : State) : (lineLoop p n s).d = s.d := by
  induction n generalizing s with
  | zero => rfl
  | succ n ih =>
    unfold lineLoop
    dsimp only
    split
    · exact normalise_d s
    · split
      · exact normalise_d s
      · exact (hostThen_d ih _).trans ((lineBody_d p _ _).trans (normalise_d s))

/-- The records the host reads are those of the store, in order, where the store may be read (R43). -/
theorem readAll_eq {s : State} (h : readable s = true) : readAll s = (List.range s.seqLen).map (seqEntry s) := by
  unfold readAll
  rw [← List.filterMap_eq_map]
  refine List.filterMap_congr fun k hk => ?_
  simp [readSeq, h, List.mem_range.mp hk]

/-- The virtual stream is the payloads of the store's Data records, in order, where the store may be read (R242). -/
theorem dataPayloads_eq {s : State} (h : readable s = true) :
    dataPayloads s = (((List.range s.seqLen).map (seqEntry s)).filter fun b => b.btype = 2).map
      fun b => (List.range b.len.toNat).map (memRead b.payload) := by
  rw [dataPayloads, readAll_eq h]
  rfl

/-- While the host handles a PROGRAM event the store may be read (R43). -/
theorem readable_of_handling {s : State} (h : handling s = true) : readable s = true := by
  simp only [handling, Bool.and_eq_true, beq_iff_eq] at h
  simp [readable, h.1, evProgram, evNone]

/-- What RECONSTRUCT reads: its stream is the one of its first line, to the end (R232, R242). -/
theorem reconstruct_d (p : Params) (s : State) : (reconstruct p s).d = dataPayloads s := by
  have e : reconstruct p s = hostThen ackEvent (lineLoop p (remaining (beginProgram s) + 1) (beginProgram s)) := rfl
  rw [e, hostThen_d fun t => ?_, lineLoop_d]
  · rfl
  · unfold ackEvent
    split <;> rfl

end Machine
end Sys2Proof
end

