-- ==== Sys2Proof/Laws/Exec.lean ====
section
/-! SUPPORT. One inversion of `exec`: everything an operation that gives a next state can have done. -/

namespace Sys2Proof
namespace Machine

/-- What a step of the block does to its record and store (R172, R173, R303, R189). -/
inductive BitEffect (s : State) : State → Prop where
  /-- The record changes, nothing else. -/
  | record (b : Block) : BitEffect s { s with blk := b }
  /-- The record changes and a block fault is raised. -/
  | raised (b : Block) (c : Code) (h : isBlockCode c = true) :
      BitEffect s { s with blk := b, fault := true, faultCode := c }
  /-- The record is committed to the store. -/
  | committed (b : Block) (h : s.seqLen < Config.params.seqCap) : BitEffect s (commitBlock { s with blk := b })

/-- What an operation did, where it gave a next state. -/
inductive Effect (i : Instr) (s : State) : State → Prop where
  /-- Nothing. -/
  | same : Effect i s s
  /-- RESET_ASSERT (R340). -/
  | reset (h : i = .resetAssert) : Effect i s (resetBlock s)
  /-- RESET_DEASSERT (R341). -/
  | deassert (h : i = .resetDeassert) (hr : s.rst = true) : Effect i s (endCall { s with rst := false })
  /-- CFG_WRITE (R342). -/
  | threshold (reg : BitVec 2) (v : Word) (h : i = .cfgWrite reg v) (hr : s.rst = true) :
      Effect i s (writeThreshold reg v s)
  /-- EV_ACK (R311). -/
  | ack (h : i = .evAck) : Effect i s (ackEvent s)
  /-- ALLOCATE (R170). -/
  | allocated (h : i = .allocate) (ha : Accepting s) (hf : s.active = false) : Effect i s (allocate s)
  /-- A raise of BLOCK_FAULT (R303). -/
  | raisedBy (c : Code) (h : i = .blockFault c) (hl : Live s) : Effect i s (raiseBlock c s)
  /-- A step on the live record. -/
  | bit (t : State) (hi : hostSide i = false) (hl : Live s) (h : BitEffect s t) : Effect i s t
  /-- A sample, or a pair of samples (R130, R131). -/
  | sample (s1 t : State) (x : Sample) (hi : i = .samplePush x ∨ ∃ y, i = .crossing y x) (ha : Accepting s)
      (h1 : s1 = s ∧ s.active = true ∨ s1 = allocate s ∧ s.active = false) (hx : s.idx ≠ BitVec.allOnes 32)
      (last : Word) (hl : last = s.lastX ∨ last = s.idx ∧ 1 ≤ s.idx.toNat)
      (h : BitEffect { s1 with prevNN := nonNeg x, idx := s.idx + 1, lastX := last } t) : Effect i s t
  /-- A routine of the host (R230). -/
  | host (t : State) (hi : hostSide i = true) (h : hostOnly s t) : Effect i s t
  /-- A routine of the host that ends in EV_ACK (R231, R232). -/
  | handled (t : State) (hi : hostSide i = true)
      (he : s.outPending = 2 ∧ (i = .reconstruct ∨ i = .evProgram) ∨ s.outPending = 1 ∧ (i = .onName ∨ i = .evName))
      (h : hostOnly s t) : Effect i s (ackEvent t)

theorem bitEffect_of_cases {r : Res} {s t : State}
    (h : (∃ f, r = .fault f) ∨ (∃ b, r = .next { s with blk := b }) ∨
      (∃ b c, r = .next { s with blk := b, fault := true, faultCode := c } ∧ isBlockCode c = true) ∨
      (∃ b, s.seqLen < Config.params.seqCap ∧ r = .next (commitBlock { s with blk := b })))
    (e : r = .next t) : BitEffect s t := by
  rcases h with ⟨f, h⟩ | ⟨b, h⟩ | ⟨b, c, h, hc⟩ | ⟨b, hb, h⟩
  · exact absurd (h.symm.trans e) nofun
  · cases h.symm.trans e; exact .record b
  · cases h.symm.trans e; exact .raised b c hc
  · cases h.symm.trans e; exact .committed b hb

/-- A guarded step on the live record. -/
theorem effect_of_live {i : Instr} {f : State → Res} {s t : State} (hi : hostSide i = false)
    (hf : f s = .next t → BitEffect s t) (e : (if live s then f s else .next s) = .next t) : Effect i s t := by
  split at e
  · exact .bit t hi ((live_iff s).mp ‹_›) (hf e)
  · cases e; exact .same

/-- A guarded handler. -/
theorem effect_of_atState {i : Instr} {c : Code} {f : State → Res} {s t : State} (hi : hostSide i = false)
    (hf : f s = .next t → BitEffect s t) (e : atState c f s = .next t) : Effect i s t := by
  rcases atState_cases c f s with ⟨h, h'⟩ | h
  · exact .bit t hi h.1 (hf (h'.symm.trans e))
  · cases h.symm.trans e; exact .same

theorem needName_effect {v : Byte} {s t : State} (e : needName v s = .next t) : BitEffect s t := by
  unfold needName at e
  split at e
  · cases e; exact .record _
  · cases e

theorem needData_effect {v : Byte} {s t : State} (e : needData v s = .next t) : BitEffect s t := by
  unfold needData at e
  split at e
  · cases e; exact .record _
  · cases e

theorem needCksum_effect (v : Byte) (s : State) : BitEffect s (needCksum v s) := by
  have e : needCksum v s = if v = s.blk.ck then { s with blk := { s.blk with ckrx := v, state := stNeedLeadByte } }
      else { s with blk := { s.blk with ckrx := v }, fault := true, faultCode := fcIntegrity } := rfl
  rw [e]
  split
  · exact .record _
  · exact .raised _ _ rfl

theorem doneEntry_effect (s : State) : BitEffect s (doneEntry Config.params s) := by
  have e : doneEntry Config.params s = if Config.params.seqCap ≤ s.seqLen then
      { s with blk := { s.blk with state := stDone }, fault := true, faultCode := fcResource }
      else commitBlock { s with blk := { s.blk with state := stDone } } := rfl
  rw [e]
  split
  · exact .raised _ _ rfl
  · exact .committed _ (by omega)

theorem lengthOf_effect {i : Instr} {bt : BitVec 2} {v : Byte} {s t : State} (hi : hostSide i = false)
    (e : lengthOf bt v s = .next t) : Effect i s t := by
  unfold lengthOf at e
  split at e
  · exact effect_of_atState hi (fun h => by cases h; exact .record _) e
  · cases e; exact .same

theorem blockRaise_effect {i : Instr} {c : Code} {s t : State} (hi : hostSide i = false) (hc : isBlockCode c = true)
    (e : blockRaise c s = .next t) : Effect i s t := by
  unfold blockRaise at e
  cases e
  split
  · exact .bit _ hi ((live_iff s).mp ‹_›) (.raised s.blk c hc)
  · exact .same

theorem illegalBit_effect {i : Instr} (c : Code) (s : State) (hi : hostSide i = false) :
    Effect i s (illegalBit c s) := by
  unfold illegalBit
  split
  · rename_i h
    exact .bit _ hi ((live_iff s).mp (Bool.and_eq_true_iff.mp h).1) (.raised s.blk _ rfl)
  · exact .same

theorem hostRaise_effect {i : Instr} {c : Code} {s t : State} (hi : hostSide i = true)
    (e : hostRaise c s = .next t) : Effect i s t := by
  unfold hostRaise at e
  cases e
  split
  · exact .host _ hi (raiseHost_hostOnly c s)
  · exact .same

theorem whileHandling_effect {i : Instr} {f : State → State} {s t : State} (hi : hostSide i = true)
    (hf : hostOnly s (f s)) (e : whileHandling f s = .next t) : Effect i s t := by
  unfold whileHandling at e
  cases e
  split
  · exact .host _ hi hf
  · exact .same

theorem reconstruct_effect {i : Instr} {s t : State} (hi : i = .reconstruct ∨ i = .evProgram)
    (e : whileHandling (reconstruct Config.params) s = .next t) : Effect i s t := by
  have hs : hostSide i = true := by rcases hi with rfl | rfl <;> rfl
  unfold whileHandling at e
  cases e
  split
  · have ho := ((handling_iff s).mp ‹_›).1
    obtain ⟨u, hu, ⟨_, h⟩ | ⟨_, h⟩⟩ := reconstruct_cases Config.params s
    · rw [h]; exact .host _ hs hu
    · rw [h]; exact .handled _ hs (.inl ⟨ho, hi⟩) hu
  · exact .same

theorem onName_effect {i : Instr} {s t : State} (hi : i = .onName ∨ i = .evName)
    (e : (if s.outPending == evName && !s.hfault then onName s else .next s) = .next t) : Effect i s t := by
  split at e
  · rename_i g
    have ho : s.outPending = 1 := by simpa [evName] using (Bool.and_eq_true_iff.mp g).1
    unfold onName at e
    split at e
    · cases e
      exact .handled _ (by rcases hi with rfl | rfl <;> rfl) (.inr ⟨ho, hi⟩) (hostOnly_refl s)
    · cases e
  · cases e; exact .same

theorem detect_effect {i : Instr} {s s1 t : State} {b : Bool} {x : Sample}
    (hi : i = .samplePush x ∨ ∃ y, i = .crossing y x) (ha : Accepting s)
    (h1 : s1 = s ∧ s.active = true ∨ s1 = allocate s ∧ s.active = false)
    (e : detect Config.params b x s1 = .next t) : Effect i s t := by
  have hx : s1.idx = s.idx := by rcases h1 with ⟨h, _⟩ | ⟨h, _⟩ <;> rw [h]; rfl
  have hl : s1.lastX = s.lastX := by rcases h1 with ⟨h, _⟩ | ⟨h, _⟩ <;> rw [h]; rfl
  unfold detect at e
  split at e
  · cases e
  · have hn : s.idx ≠ BitVec.allOnes 32 := by rw [← hx]; assumption
    by_cases hc : Crossing b x s1
    · rw [advance_of_crossing hc] at e
      refine .sample s1 t x hi ha h1 hn s.idx (.inr ⟨rfl, hx ▸ hc.1⟩) ?_
      rw [← hx]
      exact bitEffect_of_cases (deliver_cases _ _ _) e
    · rw [advance_of_no_crossing hc] at e
      refine .sample s1 t x hi ha h1 hn s.lastX (.inl rfl) ?_
      rw [← hx, ← hl]
      cases e
      exact .record s1.blk

/-- Everything an operation that gives a next state can have done. -/
theorem exec_effect {i : Instr} {s t : State} (e : exec i s = .next t) : Effect i s t := by
  cases i <;> simp only [exec] at e
  case nop => cases e; exact .same
  case samplePush x =>
    simp only [execSamplePush, samplePush] at e
    split at e
    · refine detect_effect (.inl rfl) ((accepts_iff s).mp ‹_›) ?_ e
      cases s.active <;> simp
    · cases e; exact .same
  case evAck => cases e; exact .ack rfl
  case cfgWrite reg v =>
    simp only [execCfgWrite, configWrite] at e
    split at e
    · split at e
      · cases e; exact .threshold reg v rfl ‹_›
      · cases e
    · cases e; exact .same
  case resetAssert => cases e; exact .reset rfl
  case resetDeassert =>
    cases e
    split
    · exact .deassert rfl ‹_›
    · exact .same
  case portReserved6 => cases e; exact .same
  case portReserved7 => cases e; exact .same
  case crossing prev cur =>
    simp only [execCrossing] at e
    split at e
    · have h := (live_iff s).mp ‹_›
      exact detect_effect (.inr ⟨prev, rfl⟩) h.1 (.inl ⟨rfl, h.2⟩) e
    · cases e; exact .same
  case clsBit0 => exact effect_of_live rfl (bitEffect_of_cases (deliver_cases _ _ _)) e
  case clsBit1 => exact effect_of_live rfl (bitEffect_of_cases (deliver_cases _ _ _)) e
  case clsNone => exact effect_of_live rfl (bitEffect_of_cases (deliver_cases _ _ _)) e
  case clsReserved => cases e
  case allocate =>
    simp only [execAllocate] at e
    cases e
    split
    · rename_i h
      have h := Bool.and_eq_true_iff.mp h
      exact .allocated rfl ((accepts_iff s).mp h.1) (by simpa using h.2)
    · exact .same
  case bitstep c => exact effect_of_live rfl (bitEffect_of_cases (bitStep_cases _ _ _)) e
  case stNeedSyncByte =>
    simp only [execStNeedSyncByte] at e
    cases e
    split
    · rename_i h
      exact .bit _ rfl ((live_iff s).mp (Bool.and_eq_true_iff.mp h).1) (.record _)
    · exact .same
  case stNeedBlockType v => exact effect_of_atState rfl (fun h => by cases h; exact .record _) e
  case stNeedLength v => exact effect_of_atState rfl (fun h => by cases h; exact .record _) e
  case stNeedName v => exact effect_of_atState rfl needName_effect e
  case stNeedFileType v => exact effect_of_atState rfl (fun h => by cases h; exact .record _) e
  case stNeedAsciiFlag v => exact effect_of_atState rfl (fun h => by cases h; exact .record _) e
  case stNeedGapFlag v => exact effect_of_atState rfl (fun h => by cases h; exact .record _) e
  case stNeedStartAddr v => exact effect_of_atState rfl (fun h => by cases h; exact .record _) e
  case stNeedLoadAddr v => exact effect_of_atState rfl (fun h => by cases h; exact .record _) e
  case stNeedData v => exact effect_of_atState rfl needData_effect e
  case stNeedCksum v => exact effect_of_atState rfl (fun h => by cases h; exact needCksum_effect _ _) e
  case stNeedLeadByte v => exact effect_of_atState rfl (fun h => by cases h; exact doneEntry_effect _) e
  case stDone => exact effect_of_atState rfl (fun h => by cases h; exact doneEntry_effect _) e
  case stIllegal13 => cases e; exact illegalBit_effect _ _ rfl
  case stIllegal14 => cases e; exact illegalBit_effect _ _ rfl
  case stIllegal15 => cases e; exact illegalBit_effect _ _ rfl
  case sync =>
    simp only [execSync] at e
    cases e
    split
    · rename_i h
      exact .bit _ rfl ((live_iff s).mp (Bool.and_eq_true_iff.mp h).1) (.record _)
    · exact .same
  case typeName => exact effect_of_atState rfl (fun h => by cases h; exact .record _) e
  case typeData => exact effect_of_atState rfl (fun h => by cases h; exact .record _) e
  case typeEof => exact effect_of_atState rfl (fun h => by cases h; exact .record _) e
  case typeInvalid b => exact effect_of_atState rfl (fun h => by cases h; exact .record _) e
  case lenName => exact lengthOf_effect rfl e
  case lenEof => exact lengthOf_effect rfl e
  case lenData l => exact lengthOf_effect rfl e
  case cksum c => exact effect_of_atState rfl (fun h => by cases h; exact needCksum_effect _ _) e
  case leadByte x => exact effect_of_atState rfl (fun h => by cases h; exact doneEntry_effect _) e
  case evNone => cases e; exact .same
  case evName => exact onName_effect (.inr rfl) e
  case evProgram => exact reconstruct_effect (.inr rfl) e
  case evReserved => cases e
  case fltNone => cases e; exact .same
  case fltIntegrity => exact blockRaise_effect rfl rfl e
  case fltResource => exact blockRaise_effect rfl rfl e
  case fltStructBlocknum => exact hostRaise_effect rfl e
  case fltStructLineOverflow => exact hostRaise_effect rfl e
  case fltStructTruncated => exact hostRaise_effect rfl e
  case fltDetokFnRange => exact hostRaise_effect rfl e
  case fltDetokTruncPrefix => exact hostRaise_effect rfl e
  case fltIllegalState => exact blockRaise_effect rfl rfl e
  case fltReserved c => cases e
  case onName => exact onName_effect (.inl rfl) e
  case reconstruct => exact reconstruct_effect (.inl rfl) e
  case checkBlockNumber b => exact whileHandling_effect rfl (checkBlockNumber_hostOnly b s) e
  case lineHeader => exact whileHandling_effect rfl (lineHeader_hostOnly s) e
  case nextByte => exact whileHandling_effect rfl (nextByte_hostOnly s) e
  case readContent => exact whileHandling_effect rfl (readContent_hostOnly _ s) e
  case emitLine ln => exact whileHandling_effect rfl (emitLine_hostOnly _ ln s) e
  case sentinel => exact whileHandling_effect rfl (sentinelTest_hostOnly s) e
  case normalise => exact whileHandling_effect rfl (normalise_hostOnly s) e
  case hostFault c => exact hostRaise_effect rfl e
  case blockFault c =>
    simp only [execBlockFault, blockRaise] at e
    cases e
    split
    · exact .raisedBy c rfl ((live_iff s).mp ‹_›)
    · exact .same
  case dtNul => cases e; exact .host _ rfl (emitUnit_hostOnly _ s)
  case dtPrint b => cases e; exact .host _ rfl (emitUnit_hostOnly _ s)
  case dtOptok b => cases e; exact .host _ rfl (emitUnit_hostOnly _ s)
  case dtFnpfx =>
    simp only [execDtFnpfx] at e
    cases e
    split
    · exact .host _ rfl (hostOnly_refl s)
    · exact .same
  case dtFn m =>
    simp only [execDtFn] at e
    cases e
    split
    · split
      · exact .host _ rfl (hostOnly_refl s)
      · exact .host _ rfl (raiseHost_hostOnly _ s)
    · exact .same
  case dtEsc b => cases e; exact .host _ rfl (emitUnit_hostOnly _ s)

end Machine
end Sys2Proof
end

