-- ==== Sys2Proof/Laws/PerInstr.lean ====
section
/-! SUPPORT. A law of every operation's encoding, constructor by constructor: it holds a code byte and is no longer
than the longest operation. -/

namespace Sys2Proof
namespace Laws

/-- The unit that presents an operation has at least its code byte and at most `maxBytes` bytes. -/
def EncodedWidth.Statement (i : Instr) : Prop := 1 ≤ (encode i).bytes.length ∧ (encode i).bytes.length ≤ maxBytes

theorem EncodedWidth.nop : EncodedWidth.Statement (.nop) :=
  ⟨Nat.le_of_ble_eq_true rfl, Nat.le_of_ble_eq_true rfl⟩
theorem EncodedWidth.samplePush (s : Sample) : EncodedWidth.Statement (.samplePush s) :=
  ⟨Nat.le_of_ble_eq_true rfl, Nat.le_of_ble_eq_true rfl⟩
theorem EncodedWidth.evAck : EncodedWidth.Statement (.evAck) :=
  ⟨Nat.le_of_ble_eq_true rfl, Nat.le_of_ble_eq_true rfl⟩
theorem EncodedWidth.cfgWrite (reg : BitVec 2) (v : Word) : EncodedWidth.Statement (.cfgWrite reg v) :=
  ⟨Nat.le_of_ble_eq_true rfl, Nat.le_of_ble_eq_true rfl⟩
theorem EncodedWidth.resetAssert : EncodedWidth.Statement (.resetAssert) :=
  ⟨Nat.le_of_ble_eq_true rfl, Nat.le_of_ble_eq_true rfl⟩
theorem EncodedWidth.resetDeassert : EncodedWidth.Statement (.resetDeassert) :=
  ⟨Nat.le_of_ble_eq_true rfl, Nat.le_of_ble_eq_true rfl⟩
theorem EncodedWidth.portReserved6 : EncodedWidth.Statement (.portReserved6) :=
  ⟨Nat.le_of_ble_eq_true rfl, Nat.le_of_ble_eq_true rfl⟩
theorem EncodedWidth.portReserved7 : EncodedWidth.Statement (.portReserved7) :=
  ⟨Nat.le_of_ble_eq_true rfl, Nat.le_of_ble_eq_true rfl⟩
theorem EncodedWidth.crossing (prev cur : Sample) : EncodedWidth.Statement (.crossing prev cur) :=
  ⟨Nat.le_of_ble_eq_true rfl, Nat.le_of_ble_eq_true rfl⟩
theorem EncodedWidth.clsBit0 : EncodedWidth.Statement (.clsBit0) :=
  ⟨Nat.le_of_ble_eq_true rfl, Nat.le_of_ble_eq_true rfl⟩
theorem EncodedWidth.clsBit1 : EncodedWidth.Statement (.clsBit1) :=
  ⟨Nat.le_of_ble_eq_true rfl, Nat.le_of_ble_eq_true rfl⟩
theorem EncodedWidth.clsNone : EncodedWidth.Statement (.clsNone) :=
  ⟨Nat.le_of_ble_eq_true rfl, Nat.le_of_ble_eq_true rfl⟩
theorem EncodedWidth.clsReserved : EncodedWidth.Statement (.clsReserved) :=
  ⟨Nat.le_of_ble_eq_true rfl, Nat.le_of_ble_eq_true rfl⟩
theorem EncodedWidth.allocate : EncodedWidth.Statement (.allocate) :=
  ⟨Nat.le_of_ble_eq_true rfl, Nat.le_of_ble_eq_true rfl⟩
theorem EncodedWidth.bitstep (c : Bool) : EncodedWidth.Statement (.bitstep c) :=
  ⟨Nat.le_of_ble_eq_true rfl, Nat.le_of_ble_eq_true rfl⟩
theorem EncodedWidth.stNeedSyncByte : EncodedWidth.Statement (.stNeedSyncByte) :=
  ⟨Nat.le_of_ble_eq_true rfl, Nat.le_of_ble_eq_true rfl⟩
theorem EncodedWidth.stNeedBlockType (v : Byte) : EncodedWidth.Statement (.stNeedBlockType v) :=
  ⟨Nat.le_of_ble_eq_true rfl, Nat.le_of_ble_eq_true rfl⟩
theorem EncodedWidth.stNeedLength (v : Byte) : EncodedWidth.Statement (.stNeedLength v) :=
  ⟨Nat.le_of_ble_eq_true rfl, Nat.le_of_ble_eq_true rfl⟩
theorem EncodedWidth.stNeedName (v : Byte) : EncodedWidth.Statement (.stNeedName v) :=
  ⟨Nat.le_of_ble_eq_true rfl, Nat.le_of_ble_eq_true rfl⟩
theorem EncodedWidth.stNeedFileType (v : Byte) : EncodedWidth.Statement (.stNeedFileType v) :=
  ⟨Nat.le_of_ble_eq_true rfl, Nat.le_of_ble_eq_true rfl⟩
theorem EncodedWidth.stNeedAsciiFlag (v : Byte) : EncodedWidth.Statement (.stNeedAsciiFlag v) :=
  ⟨Nat.le_of_ble_eq_true rfl, Nat.le_of_ble_eq_true rfl⟩
theorem EncodedWidth.stNeedGapFlag (v : Byte) : EncodedWidth.Statement (.stNeedGapFlag v) :=
  ⟨Nat.le_of_ble_eq_true rfl, Nat.le_of_ble_eq_true rfl⟩
theorem EncodedWidth.stNeedStartAddr (v : Byte) : EncodedWidth.Statement (.stNeedStartAddr v) :=
  ⟨Nat.le_of_ble_eq_true rfl, Nat.le_of_ble_eq_true rfl⟩
theorem EncodedWidth.stNeedLoadAddr (v : Byte) : EncodedWidth.Statement (.stNeedLoadAddr v) :=
  ⟨Nat.le_of_ble_eq_true rfl, Nat.le_of_ble_eq_true rfl⟩
theorem EncodedWidth.stNeedData (v : Byte) : EncodedWidth.Statement (.stNeedData v) :=
  ⟨Nat.le_of_ble_eq_true rfl, Nat.le_of_ble_eq_true rfl⟩
theorem EncodedWidth.stNeedCksum (v : Byte) : EncodedWidth.Statement (.stNeedCksum v) :=
  ⟨Nat.le_of_ble_eq_true rfl, Nat.le_of_ble_eq_true rfl⟩
theorem EncodedWidth.stNeedLeadByte (v : Byte) : EncodedWidth.Statement (.stNeedLeadByte v) :=
  ⟨Nat.le_of_ble_eq_true rfl, Nat.le_of_ble_eq_true rfl⟩
theorem EncodedWidth.stDone : EncodedWidth.Statement (.stDone) :=
  ⟨Nat.le_of_ble_eq_true rfl, Nat.le_of_ble_eq_true rfl⟩
theorem EncodedWidth.stIllegal13 : EncodedWidth.Statement (.stIllegal13) :=
  ⟨Nat.le_of_ble_eq_true rfl, Nat.le_of_ble_eq_true rfl⟩
theorem EncodedWidth.stIllegal14 : EncodedWidth.Statement (.stIllegal14) :=
  ⟨Nat.le_of_ble_eq_true rfl, Nat.le_of_ble_eq_true rfl⟩
theorem EncodedWidth.stIllegal15 : EncodedWidth.Statement (.stIllegal15) :=
  ⟨Nat.le_of_ble_eq_true rfl, Nat.le_of_ble_eq_true rfl⟩
theorem EncodedWidth.sync : EncodedWidth.Statement (.sync) :=
  ⟨Nat.le_of_ble_eq_true rfl, Nat.le_of_ble_eq_true rfl⟩
theorem EncodedWidth.typeName : EncodedWidth.Statement (.typeName) :=
  ⟨Nat.le_of_ble_eq_true rfl, Nat.le_of_ble_eq_true rfl⟩
theorem EncodedWidth.typeData : EncodedWidth.Statement (.typeData) :=
  ⟨Nat.le_of_ble_eq_true rfl, Nat.le_of_ble_eq_true rfl⟩
theorem EncodedWidth.typeEof : EncodedWidth.Statement (.typeEof) :=
  ⟨Nat.le_of_ble_eq_true rfl, Nat.le_of_ble_eq_true rfl⟩
theorem EncodedWidth.typeInvalid (b : Byte) : EncodedWidth.Statement (.typeInvalid b) :=
  ⟨Nat.le_of_ble_eq_true rfl, Nat.le_of_ble_eq_true rfl⟩
theorem EncodedWidth.lenName : EncodedWidth.Statement (.lenName) :=
  ⟨Nat.le_of_ble_eq_true rfl, Nat.le_of_ble_eq_true rfl⟩
theorem EncodedWidth.lenEof : EncodedWidth.Statement (.lenEof) :=
  ⟨Nat.le_of_ble_eq_true rfl, Nat.le_of_ble_eq_true rfl⟩
theorem EncodedWidth.lenData (l : Byte) : EncodedWidth.Statement (.lenData l) :=
  ⟨Nat.le_of_ble_eq_true rfl, Nat.le_of_ble_eq_true rfl⟩
theorem EncodedWidth.cksum (c : Byte) : EncodedWidth.Statement (.cksum c) :=
  ⟨Nat.le_of_ble_eq_true rfl, Nat.le_of_ble_eq_true rfl⟩
theorem EncodedWidth.leadByte (x : Byte) : EncodedWidth.Statement (.leadByte x) :=
  ⟨Nat.le_of_ble_eq_true rfl, Nat.le_of_ble_eq_true rfl⟩
theorem EncodedWidth.evNone : EncodedWidth.Statement (.evNone) :=
  ⟨Nat.le_of_ble_eq_true rfl, Nat.le_of_ble_eq_true rfl⟩
theorem EncodedWidth.evName : EncodedWidth.Statement (.evName) :=
  ⟨Nat.le_of_ble_eq_true rfl, Nat.le_of_ble_eq_true rfl⟩
theorem EncodedWidth.evProgram : EncodedWidth.Statement (.evProgram) :=
  ⟨Nat.le_of_ble_eq_true rfl, Nat.le_of_ble_eq_true rfl⟩
theorem EncodedWidth.evReserved : EncodedWidth.Statement (.evReserved) :=
  ⟨Nat.le_of_ble_eq_true rfl, Nat.le_of_ble_eq_true rfl⟩
theorem EncodedWidth.fltNone : EncodedWidth.Statement (.fltNone) :=
  ⟨Nat.le_of_ble_eq_true rfl, Nat.le_of_ble_eq_true rfl⟩
theorem EncodedWidth.fltIntegrity : EncodedWidth.Statement (.fltIntegrity) :=
  ⟨Nat.le_of_ble_eq_true rfl, Nat.le_of_ble_eq_true rfl⟩
theorem EncodedWidth.fltResource : EncodedWidth.Statement (.fltResource) :=
  ⟨Nat.le_of_ble_eq_true rfl, Nat.le_of_ble_eq_true rfl⟩
theorem EncodedWidth.fltStructBlocknum : EncodedWidth.Statement (.fltStructBlocknum) :=
  ⟨Nat.le_of_ble_eq_true rfl, Nat.le_of_ble_eq_true rfl⟩
theorem EncodedWidth.fltStructLineOverflow : EncodedWidth.Statement (.fltStructLineOverflow) :=
  ⟨Nat.le_of_ble_eq_true rfl, Nat.le_of_ble_eq_true rfl⟩
theorem EncodedWidth.fltStructTruncated : EncodedWidth.Statement (.fltStructTruncated) :=
  ⟨Nat.le_of_ble_eq_true rfl, Nat.le_of_ble_eq_true rfl⟩
theorem EncodedWidth.fltDetokFnRange : EncodedWidth.Statement (.fltDetokFnRange) :=
  ⟨Nat.le_of_ble_eq_true rfl, Nat.le_of_ble_eq_true rfl⟩
theorem EncodedWidth.fltDetokTruncPrefix : EncodedWidth.Statement (.fltDetokTruncPrefix) :=
  ⟨Nat.le_of_ble_eq_true rfl, Nat.le_of_ble_eq_true rfl⟩
theorem EncodedWidth.fltIllegalState : EncodedWidth.Statement (.fltIllegalState) :=
  ⟨Nat.le_of_ble_eq_true rfl, Nat.le_of_ble_eq_true rfl⟩
theorem EncodedWidth.fltReserved (c : Code) : EncodedWidth.Statement (.fltReserved c) :=
  ⟨Nat.le_of_ble_eq_true rfl, Nat.le_of_ble_eq_true rfl⟩
theorem EncodedWidth.onName : EncodedWidth.Statement (.onName) :=
  ⟨Nat.le_of_ble_eq_true rfl, Nat.le_of_ble_eq_true rfl⟩
theorem EncodedWidth.reconstruct : EncodedWidth.Statement (.reconstruct) :=
  ⟨Nat.le_of_ble_eq_true rfl, Nat.le_of_ble_eq_true rfl⟩
theorem EncodedWidth.checkBlockNumber (b : Byte) : EncodedWidth.Statement (.checkBlockNumber b) :=
  ⟨Nat.le_of_ble_eq_true rfl, Nat.le_of_ble_eq_true rfl⟩
theorem EncodedWidth.lineHeader : EncodedWidth.Statement (.lineHeader) :=
  ⟨Nat.le_of_ble_eq_true rfl, Nat.le_of_ble_eq_true rfl⟩
theorem EncodedWidth.nextByte : EncodedWidth.Statement (.nextByte) :=
  ⟨Nat.le_of_ble_eq_true rfl, Nat.le_of_ble_eq_true rfl⟩
theorem EncodedWidth.readContent : EncodedWidth.Statement (.readContent) :=
  ⟨Nat.le_of_ble_eq_true rfl, Nat.le_of_ble_eq_true rfl⟩
theorem EncodedWidth.emitLine (ln : BitVec 16) : EncodedWidth.Statement (.emitLine ln) :=
  ⟨Nat.le_of_ble_eq_true rfl, Nat.le_of_ble_eq_true rfl⟩
theorem EncodedWidth.sentinel : EncodedWidth.Statement (.sentinel) :=
  ⟨Nat.le_of_ble_eq_true rfl, Nat.le_of_ble_eq_true rfl⟩
theorem EncodedWidth.normalise : EncodedWidth.Statement (.normalise) :=
  ⟨Nat.le_of_ble_eq_true rfl, Nat.le_of_ble_eq_true rfl⟩
theorem EncodedWidth.hostFault (code : Code) : EncodedWidth.Statement (.hostFault code) :=
  ⟨Nat.le_of_ble_eq_true rfl, Nat.le_of_ble_eq_true rfl⟩
theorem EncodedWidth.blockFault (code : Code) : EncodedWidth.Statement (.blockFault code) :=
  ⟨Nat.le_of_ble_eq_true rfl, Nat.le_of_ble_eq_true rfl⟩
theorem EncodedWidth.dtNul : EncodedWidth.Statement (.dtNul) :=
  ⟨Nat.le_of_ble_eq_true rfl, Nat.le_of_ble_eq_true rfl⟩
theorem EncodedWidth.dtPrint (b : Byte) : EncodedWidth.Statement (.dtPrint b) :=
  ⟨Nat.le_of_ble_eq_true rfl, Nat.le_of_ble_eq_true rfl⟩
theorem EncodedWidth.dtOptok (b : Byte) : EncodedWidth.Statement (.dtOptok b) :=
  ⟨Nat.le_of_ble_eq_true rfl, Nat.le_of_ble_eq_true rfl⟩
theorem EncodedWidth.dtFnpfx : EncodedWidth.Statement (.dtFnpfx) :=
  ⟨Nat.le_of_ble_eq_true rfl, Nat.le_of_ble_eq_true rfl⟩
theorem EncodedWidth.dtFn (m : Byte) : EncodedWidth.Statement (.dtFn m) :=
  ⟨Nat.le_of_ble_eq_true rfl, Nat.le_of_ble_eq_true rfl⟩
theorem EncodedWidth.dtEsc (b : Byte) : EncodedWidth.Statement (.dtEsc b) :=
  ⟨Nat.le_of_ble_eq_true rfl, Nat.le_of_ble_eq_true rfl⟩

end Laws
end Sys2Proof
end

