-- ==== Sys2Proof/Tests/Slice0.lean ====
section
/-! SUPPORT. The tests: ill-formed operations are refused, every constructor is decoded from a word written out from the
spec's encoding of it, single steps against the spec's vectors (95_test_vectors.md), and for every obligation with
hypotheses a state that meets them. -/

namespace Sys2Proof
namespace Tests

open Machine

/-! ## Ill-formed operations (one per check) -/

theorem test_wf_crossing_prev_negative : WellFormed (.crossing (-1) (-1)) = false := by decide
theorem test_wf_crossing_cur_zero : WellFormed (.crossing 5 0) = false := by decide
theorem test_wf_type_invalid_refuses_types :
    WellFormed (.typeInvalid 0x00) = false ∧ WellFormed (.typeInvalid 0x01) = false ∧
    WellFormed (.typeInvalid 0xFF) = false := by decide
theorem test_wf_flt_reserved_refuses_named_code : WellFormed (.fltReserved 8) = false := by decide
theorem test_wf_host_fault_refuses_block_codes :
    WellFormed (.hostFault 2) = false ∧ WellFormed (.hostFault 8) = false := by decide
theorem test_wf_block_fault_refuses_host_codes :
    WellFormed (.blockFault 3) = false ∧ WellFormed (.blockFault 0) = false := by decide
theorem test_wf_dt_print_bounds :
    WellFormed (.dtPrint 0x1F) = false ∧ WellFormed (.dtPrint 0x7F) = false ∧
    WellFormed (.dtPrint 0x20) = true ∧ WellFormed (.dtPrint 0x7E) = true := by decide
theorem test_wf_dt_optok_bounds :
    WellFormed (.dtOptok 0x7F) = false ∧ WellFormed (.dtOptok 0xE0) = false ∧
    WellFormed (.dtOptok 0x80) = true ∧ WellFormed (.dtOptok 0xDF) = true := by decide
theorem test_wf_dt_esc_refuses_other_classes :
    WellFormed (.dtEsc 0x00) = false ∧ WellFormed (.dtEsc 0x41) = false ∧ WellFormed (.dtEsc 0x84) = false ∧
    WellFormed (.dtEsc 0xFF) = false ∧ WellFormed (.dtEsc 0xFE) = true := by decide

/-! ## Decoding: each constructor's word, from the spec's encoding tables (the operand order is log 2's) -/

/-- R114's command codes, 3 bits; operands R91 (sample, two's complement), R114 (threshold number, 32-bit value). -/
theorem test_decode_port :
    decode ⟨.portOp, [0b000]⟩ = .ok .nop ∧
    decode ⟨.portOp, [0b001, 0b00000001, 0b10000000]⟩ = .ok (.samplePush (BitVec.ofInt 16 (-32767))) ∧
    decode ⟨.portOp, [0b010]⟩ = .ok .evAck ∧
    decode ⟨.portOp, [0b011, 0b10, 0x78, 0x56, 0x34, 0x12]⟩ = .ok (.cfgWrite 2 0x12345678) ∧
    decode ⟨.portOp, [0b100]⟩ = .ok .resetAssert ∧
    decode ⟨.portOp, [0b101]⟩ = .ok .resetDeassert ∧
    decode ⟨.portOp, [0b110]⟩ = .ok .portReserved6 ∧
    decode ⟨.portOp, [0b111]⟩ = .ok .portReserved7 := by decide

/-- R131: a sample `>= 0` followed by one `< 0`; R93's classified-bit codes, 2 bits. -/
theorem test_decode_crossing_and_class :
    decode ⟨.samplePair, [0x00, 0x00, 0xFF, 0xFF]⟩ = .ok (.crossing 0 (BitVec.ofInt 16 (-1))) ∧
    decode ⟨.samplePair, [0x00, 0x80, 0xFF, 0xFF]⟩ = .error .operandOutOfClass ∧
    decode ⟨.classifiedBit, [0b00]⟩ = .ok .clsBit0 ∧ decode ⟨.classifiedBit, [0b01]⟩ = .ok .clsBit1 ∧
    decode ⟨.classifiedBit, [0b10]⟩ = .ok .clsNone ∧ decode ⟨.classifiedBit, [0b11]⟩ = .ok .clsReserved := by decide

/-- No code in the spec: the model's own numbers (log 2). -/
theorem test_decode_internal :
    decode ⟨.internal, [0]⟩ = .ok .allocate ∧
    decode ⟨.internal, [1, 0]⟩ = .ok (.bitstep false) ∧ decode ⟨.internal, [1, 1]⟩ = .ok (.bitstep true) ∧
    decode ⟨.internal, [2, 0b1000]⟩ = .ok (.blockFault 8) ∧
    decode ⟨.internal, [2, 3]⟩ = .error .operandOutOfClass := by decide

/-- R110's state codes, 4 bits, the completed byte beside the code. -/
theorem test_decode_fsm_state :
    decode ⟨.fsmState, [0b0000]⟩ = .ok .stNeedSyncByte ∧
    decode ⟨.fsmState, [0b0001, 0xA5]⟩ = .ok (.stNeedBlockType 0xA5) ∧
    decode ⟨.fsmState, [0b0010, 0xA5]⟩ = .ok (.stNeedLength 0xA5) ∧
    decode ⟨.fsmState, [0b0011, 0xA5]⟩ = .ok (.stNeedName 0xA5) ∧
    decode ⟨.fsmState, [0b0100, 0xA5]⟩ = .ok (.stNeedFileType 0xA5) ∧
    decode ⟨.fsmState, [0b0101, 0xA5]⟩ = .ok (.stNeedAsciiFlag 0xA5) ∧
    decode ⟨.fsmState, [0b0110, 0xA5]⟩ = .ok (.stNeedGapFlag 0xA5) ∧
    decode ⟨.fsmState, [0b0111, 0xA5]⟩ = .ok (.stNeedStartAddr 0xA5) ∧
    decode ⟨.fsmState, [0b1000, 0xA5]⟩ = .ok (.stNeedLoadAddr 0xA5) ∧
    decode ⟨.fsmState, [0b1001, 0xA5]⟩ = .ok (.stNeedData 0xA5) ∧
    decode ⟨.fsmState, [0b1010, 0xA5]⟩ = .ok (.stNeedCksum 0xA5) ∧
    decode ⟨.fsmState, [0b1011, 0xA5]⟩ = .ok (.stNeedLeadByte 0xA5) ∧
    decode ⟨.fsmState, [0b1100]⟩ = .ok .stDone ∧ decode ⟨.fsmState, [0b1101]⟩ = .ok .stIllegal13 ∧
    decode ⟨.fsmState, [0b1110]⟩ = .ok .stIllegal14 ∧ decode ⟨.fsmState, [0b1111]⟩ = .ok .stIllegal15 := by decide

/-- R96 to R101: the tape bytes of each field of a frame. -/
theorem test_decode_tape_bytes :
    decode ⟨.syncByte, [0b00111100]⟩ = .ok .sync ∧ decode ⟨.syncByte, [0b00111101]⟩ = .error .noSuchCode ∧
    decode ⟨.typeByte, [0b00000000]⟩ = .ok .typeName ∧ decode ⟨.typeByte, [0b00000001]⟩ = .ok .typeData ∧
    decode ⟨.typeByte, [0b11111111]⟩ = .ok .typeEof ∧ decode ⟨.typeByte, [0b00000111]⟩ = .ok (.typeInvalid 7) ∧
    decode ⟨.lenNameByte, [0b00001111]⟩ = .ok .lenName ∧ decode ⟨.lenNameByte, [0b00001110]⟩ = .error .noSuchCode ∧
    decode ⟨.lenEofByte, [0b00000000]⟩ = .ok .lenEof ∧ decode ⟨.lenEofByte, [0b00000001]⟩ = .error .noSuchCode ∧
    decode ⟨.lenDataByte, [0b11111111]⟩ = .ok (.lenData 255) ∧
    decode ⟨.cksumByte, [0b01101000]⟩ = .ok (.cksum 0x68) ∧
    decode ⟨.leadByte, [0b01010101]⟩ = .ok (.leadByte 0x55) := by decide

/-- R41's event codes, 2 bits, and R112's fault codes, 4 bits. -/
theorem test_decode_events_and_faults :
    decode ⟨.outPending, [0b00]⟩ = .ok .evNone ∧ decode ⟨.outPending, [0b01]⟩ = .ok .evName ∧
    decode ⟨.outPending, [0b10]⟩ = .ok .evProgram ∧ decode ⟨.outPending, [0b11]⟩ = .ok .evReserved ∧
    decode ⟨.faultCode, [0b0000]⟩ = .ok .fltNone ∧ decode ⟨.faultCode, [0b0001]⟩ = .ok .fltIntegrity ∧
    decode ⟨.faultCode, [0b0010]⟩ = .ok .fltResource ∧ decode ⟨.faultCode, [0b0011]⟩ = .ok .fltStructBlocknum ∧
    decode ⟨.faultCode, [0b0100]⟩ = .ok .fltStructLineOverflow ∧
    decode ⟨.faultCode, [0b0101]⟩ = .ok .fltStructTruncated ∧
    decode ⟨.faultCode, [0b0110]⟩ = .ok .fltDetokFnRange ∧
    decode ⟨.faultCode, [0b0111]⟩ = .ok .fltDetokTruncPrefix ∧
    decode ⟨.faultCode, [0b1000]⟩ = .ok .fltIllegalState ∧
    decode ⟨.faultCode, [0b1001]⟩ = .ok (.fltReserved 9) ∧ decode ⟨.faultCode, [0b1111]⟩ = .ok (.fltReserved 15) ∧
    decode ⟨.faultCode, [0b10000]⟩ = .error .noSuchCode := by decide

/-- No code in the spec: the model's own numbers (log 2). -/
theorem test_decode_host_routines :
    decode ⟨.hostRoutine, [0]⟩ = .ok .onName ∧ decode ⟨.hostRoutine, [1]⟩ = .ok .reconstruct ∧
    decode ⟨.hostRoutine, [2, 0x1E]⟩ = .ok (.checkBlockNumber 0x1E) ∧ decode ⟨.hostRoutine, [3]⟩ = .ok .lineHeader ∧
    decode ⟨.hostRoutine, [4]⟩ = .ok .nextByte ∧ decode ⟨.hostRoutine, [5]⟩ = .ok .readContent ∧
    decode ⟨.hostRoutine, [6, 0x34, 0x12]⟩ = .ok (.emitLine 0x1234) ∧ decode ⟨.hostRoutine, [7]⟩ = .ok .sentinel ∧
    decode ⟨.hostRoutine, [8]⟩ = .ok .normalise ∧ decode ⟨.hostRoutine, [9, 3]⟩ = .ok (.hostFault 3) ∧
    decode ⟨.hostRoutine, [9, 1]⟩ = .error .operandOutOfClass := by decide

/-- R104's classes of a content byte, at their bounds, and R105's second byte. -/
theorem test_decode_detok :
    decode ⟨.detokByte, [0x00]⟩ = .ok .dtNul ∧ decode ⟨.detokByte, [0x1F]⟩ = .ok (.dtEsc 0x1F) ∧
    decode ⟨.detokByte, [0x20]⟩ = .ok (.dtPrint 0x20) ∧ decode ⟨.detokByte, [0x7E]⟩ = .ok (.dtPrint 0x7E) ∧
    decode ⟨.detokByte, [0x7F]⟩ = .ok (.dtEsc 0x7F) ∧ decode ⟨.detokByte, [0x80]⟩ = .ok (.dtOptok 0x80) ∧
    decode ⟨.detokByte, [0xDF]⟩ = .ok (.dtOptok 0xDF) ∧ decode ⟨.detokByte, [0xE0]⟩ = .ok (.dtEsc 0xE0) ∧
    decode ⟨.detokByte, [0xFE]⟩ = .ok (.dtEsc 0xFE) ∧ decode ⟨.detokByte, [0xFF]⟩ = .ok .dtFnpfx ∧
    decode ⟨.detokFn, [0xFF]⟩ = .ok (.dtFn 0xFF) := by decide

/-- A unit without a code, and one whose operand is missing, are refused by name. -/
theorem test_decode_refuses :
    decode ⟨.portOp, []⟩ = .error .noCode ∧ decode ⟨.portOp, [8]⟩ = .error .noSuchCode ∧
    decode ⟨.portOp, [1, 0]⟩ = .error .operandMissing ∧
    decode ⟨.portOp, [3, 4, 0, 0, 0, 0]⟩ = .error .operandOutOfClass := by decide

/-- Table words are numbered from the first byte up, and run as the next operation. -/
theorem test_table_word :
    decodeTableWord 8 1 = some (.samplePush 0) ∧ decodeTableWord 48 0x12345678_02_03 = some (.cfgWrite 2 0x12345678) ∧
    (State.reset.withFetchWord 8 5).queue = [⟨.portOp, [5, 0, 0, 0, 0, 0]⟩] := by decide

/-! ## Single steps, expected values from 95_test_vectors.md unless a rule is named -/

/-- What an operation that answers a next state leaves. -/
def got {α : Type} (f : State → α) : Res → Option α
  | .next t => some (f t)
  | .fault _ => none
  | .refused _ => none

/-- After reset is released. -/
def running : State := { State.reset with rst := false }
/-- A live record. -/
def onRecord (b : Block) : State := { running with active := true, blk := b }
/-- A live record in a state of the FSM. -/
def inState (c : Code) : State := onRecord { Block.fresh with state := c }
/-- A live record of a type in NeedLength. -/
def needLen (bt : BitVec 2) (ck : Byte) : State := onRecord { Block.fresh with state := 2, btype := bt, ck := ck }
/-- The host handling a PROGRAM event on a stream. -/
def onStream (d : List (List Byte)) : State := { running with outPending := 2, d := d }
/-- The parameters of the vectors, with `LINE_MAX` and `FN_COUNT` as given (95, L2). -/
def vecParams (lineMax : Nat) (fnCount : Fin 129) : Params where
  threshMax := 31
  seqCap := 4
  lineMax := lineMax
  fnCount := fnCount.val
  opTokens := fun b => if b = 0x84 then Config.elseToken else ['O']
  fnTokens := fun _ => ['F']
  seqCap_pos := by decide
  fnCount_le := Nat.lt_succ_iff.mp fnCount.isLt
  threshMax_ge := by decide
  opTokens_else := rfl
/-- RECONSTRUCT's loop over a list of payloads: the text and the host's fault code. -/
def printed (lineMax : Nat) (d : List (List Byte)) : Text × Bool × Code :=
  let t := lineLoop (vecParams lineMax 40) (remaining (onStream d) + 1) (onStream d)
  (t.text, t.hfault, t.hfaultCode)
/-- A Detok call. -/
def detokOf (x : List Byte) : Option Text × Code :=
  match detok (vecParams 255 40) x with
  | .ok t => (some t, 0)
  | .error c => (none, c)

/-- The fields CD vectors show. -/
def cdOf (s : State) : Nat × Nat × Bool := (s.idx.toNat, s.lastX.toNat, s.prevNN)

/-- CD-1, second sample: the first crossing is measured from index 0. -/
theorem test_sample_push_crossing :
    got cdOf (exec (.samplePush (-3)) { onRecord Block.fresh with idx := 1, prevNN := true }) =
      some (2, 1, false) := by decide
/-- CD-9: refused in reset. -/
theorem test_sample_push_in_reset : got cdOf (exec (.samplePush 1) State.reset) = some (0, 0, false) := by decide
/-- CD-5, last sample: length 24 at index 25, a BIT1 into the window. -/
theorem test_crossing_bit1 :
    got (fun t => (cdOf t, t.blk.shift))
      (exec (.crossing 1000 (-1000)) { onRecord Block.fresh with idx := 25, lastX := 1 }) =
      some ((26, 25, false), 0x80) := by decide
/-- CD-4: at index 0 nothing crosses (R131). -/
theorem test_crossing_index_zero :
    got cdOf (exec (.crossing 1000 (-1000)) (onRecord Block.fresh)) = some (1, 0, false) := by decide
/-- CL-2 to CL-4, CL-6, CL-8. -/
theorem test_classify_reset_thresholds :
    classify running 17 = .none ∧ classify running 18 = .bit1 ∧ classify running 31 = .bit1 ∧
    classify running 32 = .bit0 ∧ classify running 0xFFFFFFFE = .bit0 := by decide
/-- CL-16, CL-17: an empty one-range. -/
theorem test_classify_empty_range :
    classify { running with oneLo := 10, oneHi := 5 } 7 = .none ∧
    classify { running with oneLo := 10, oneHi := 5 } 31 = .bit0 := by decide
/-- R342 example (CL-19). -/
theorem test_cfg_write_one_hi :
    got (fun t => (t.oneLo, t.oneHi, t.zeroLo)) (configWrite (vecParams 1 0) 1 30 State.reset) =
      some (18, 30, 31) := by decide
/-- PO-14: `THRESH_MAX + 1` is refused, and the infinity only in a high bound. -/
theorem test_cfg_write_outside_contract :
    got (fun t => t.oneLo) (configWrite (vecParams 1 0) 0 32 State.reset) = none ∧
    got (fun t => t.zeroLo) (configWrite (vecParams 1 0) 2 0xFFFFFFFF State.reset) = none ∧
    got (fun t => t.zeroHi) (configWrite (vecParams 1 0) 3 0xFFFFFFFF State.reset) = some 0xFFFFFFFF := by decide
/-- R311: PROGRAM releases the store, NAME does not. -/
theorem test_ev_ack :
    got (fun t => (t.outPending, t.seqLen)) (exec .evAck { running with outPending := 2, seqLen := 3 }) = some (0, 0) ∧
    got (fun t => (t.outPending, t.seqLen)) (exec .evAck { running with outPending := 1, seqLen := 3 }) =
      some (0, 3) := by decide
/-- R340: the way out of a fault. -/
theorem test_reset_assert :
    got (fun t => (t.rst, t.fault, t.seqLen, t.zeroHi))
      (exec .resetAssert { running with fault := true, faultCode := 1, seqLen := 2, zeroHi := 9 }) =
      some (true, false, 0, 0xFFFFFFFF) := by decide
/-- R341. -/
theorem test_reset_deassert : got (fun t => t.rst) (exec .resetDeassert State.reset) = some false := by decide
/-- R170: an allocation only where no record is active. -/
theorem test_allocate :
    got (fun t => (t.active, t.blk.ck)) (exec .allocate { running with blk := { Block.fresh with ck := 5 } }) =
      some (true, 0) ∧
    got (fun t => t.blk.ck) (exec .allocate (onRecord { Block.fresh with ck := 5 })) = some 5 := by decide

/-- FS-1, last bit: the partial window syncs. -/
theorem test_bitstep_syncs :
    got (fun t => (t.blk.state, t.blk.shift, t.blk.bitcnt))
      (exec (.bitstep false) (onRecord { Block.fresh with shift := 0x78 })) = some (1, 0, 0) := by decide
/-- R172: the eighth bit of the byte 0x01 in NeedBlockType. -/
theorem test_bitstep_completes_byte :
    got (fun t => (t.blk.state, t.blk.btype, t.blk.shift, t.blk.bitcnt))
      (exec (.bitstep false) (onRecord { Block.fresh with state := 1, shift := 0x02, bitcnt := 7 })) =
      some (2, 2, 0, 0) := by decide
/-- R150, R152: BIT0 enters at bit 7 as 0, BIT1 as 1, NONE not at all. -/
theorem test_cls_rows :
    got (fun t => t.blk.shift) (exec .clsBit0 (onRecord { Block.fresh with shift := 0x81 })) = some 0x40 ∧
    got (fun t => t.blk.shift) (exec .clsBit1 (onRecord { Block.fresh with shift := 0x80 })) = some 0xC0 ∧
    got (fun t => t.blk.shift) (exec .clsNone (onRecord { Block.fresh with shift := 0x81 })) = some 0x81 := by decide
/-- FS-4: an invalid type resynchronises and writes nothing else. -/
theorem test_type_invalid :
    got (fun t => (t.blk.state, t.blk.btype, t.blk.ck)) (exec (.stNeedBlockType 7) (inState 1)) = some (0, 0, 0) ∧
    got (fun t => (t.blk.state, t.blk.btype, t.blk.ck)) (exec .typeEof (inState 1)) = some (2, 3, 0xFF) := by decide
/-- FS-5, FS-6: a wrong length leaves stale fields. -/
theorem test_need_length_wrong :
    got (fun t => (t.blk.state, t.blk.len, t.blk.ck)) (exec (.stNeedLength 0x0E) (needLen 1 0)) =
      some (0, 0x0E, 0x0E) ∧
    got (fun t => (t.blk.state, t.blk.len, t.blk.ck)) (exec (.stNeedLength 1) (needLen 3 0xFF)) =
      some (0, 1, 0) := by decide
/-- R178: the three accepted lengths; FS-7: a Data block of length 0. -/
theorem test_need_length_accepted :
    got (fun t => t.blk.state) (exec .lenName (needLen 1 0)) = some 3 ∧
    got (fun t => t.blk.state) (exec .lenEof (needLen 3 0xFF)) = some 10 ∧
    got (fun t => (t.blk.state, t.blk.didx)) (exec (.lenData 2) (needLen 2 1)) = some (9, 0) ∧
    got (fun t => t.blk.state) (exec (.lenData 0) (needLen 2 1)) = some 10 := by decide
/-- R179: the eighth name byte. -/
theorem test_need_name_last :
    got (fun t => (t.blk.state, t.blk.nidx, t.blk.name.toList))
      (exec (.stNeedName 0x54) (onRecord { Block.fresh with state := 3, nidx := 7 })) =
      some (4, 8, [0, 0, 0, 0, 0, 0, 0, 0x54]) := by decide
/-- FS-10, FS-17: the flags, one byte each. -/
theorem test_flag_bytes :
    got (fun t => (t.blk.state, t.blk.ftype)) (exec (.stNeedFileType 2) (inState 4)) = some (5, 2) ∧
    got (fun t => (t.blk.state, t.blk.ascii)) (exec (.stNeedAsciiFlag 0xFF) (inState 5)) = some (6, 0xFF) ∧
    got (fun t => (t.blk.state, t.blk.gap)) (exec (.stNeedGapFlag 1) (inState 6)) = some (7, 1) := by decide
/-- FS-10: the second byte of the start address, 0x1234. -/
theorem test_start_addr :
    got (fun t => (t.blk.state, t.blk.startAddr, t.blk.aidx))
      (exec (.stNeedStartAddr 0x34) (onRecord { Block.fresh with state := 7, aidx := 1, startAddr := 0x0012 })) =
      some (8, 0x1234, 0) := by decide
/-- FS-8, FS-10: the second byte of the load address, and the length quirk down to 13. -/
theorem test_load_addr :
    got (fun t => (t.blk.state, t.blk.loadAddr, t.blk.len))
      (exec (.stNeedLoadAddr 0xCD)
        (onRecord { Block.fresh with state := 8, aidx := 1, loadAddr := 0x00AB, len := 14 })) =
      some (10, 0xABCD, 13) := by decide
/-- S1: the second of two payload bytes. -/
theorem test_need_data :
    got (fun t => (t.blk.state, t.blk.payload))
      (exec (.stNeedData 0xBB)
        (onRecord { Block.fresh with state := 9, btype := 2, len := 2, didx := 1, payload := [(0, 0xAA)] })) =
      some (10, [(0, 0xAA), (1, 0xBB)]) := by decide
/-- FS-9: the checksum off by one; S1: the right one. -/
theorem test_need_cksum :
    got (fun t => (t.fault, t.faultCode, t.blk.state, t.blk.ckrx))
      (exec (.cksum 0x67) (onRecord { Block.fresh with state := 10, ck := 0x68 })) = some (true, 1, 10, 0x67) ∧
    got (fun t => (t.fault, t.blk.state))
      (exec (.stNeedCksum 0x68) (onRecord { Block.fresh with state := 10, ck := 0x68 })) = some (false, 11) := by decide
/-- FS-11: the EndOfFile block raises PROGRAM. -/
theorem test_done_raises_program :
    got (fun t => (t.outPending, t.active, t.seqLen))
      (.next (doneEntry (vecParams 1 0) (onRecord { Block.fresh with state := 11, btype := 3 }))) =
      some (2, false, 1) := by decide
/-- FS-12: the full store. -/
theorem test_done_full_store :
    got (fun t => (t.fault, t.faultCode, t.seqLen, t.active))
      (.next (doneEntry (vecParams 1 0) { inState 11 with seqLen := 4 })) = some (true, 2, 4, true) := by decide
/-- FS-18: a reserved state code. -/
theorem test_illegal_state :
    got (fun t => (t.fault, t.faultCode, t.blk.shift)) (exec (.bitstep true) (inState 13)) = some (true, 8, 0) ∧
    got (fun t => (t.fault, t.faultCode)) (exec .stIllegal15 (inState 15)) = some (true, 8) := by decide
/-- R175: the tape byte 0x3C in the window. -/
theorem test_sync_row : got (fun t => t.blk.state) (exec .sync (inState 0)) = some 1 := by decide

/-- S3: the printed header, and the store kept. -/
theorem test_on_name :
    got (fun t => (t.text, t.outPending, t.seqLen))
      (exec .onName { running with
        outPending := 1, seqLen := 1
        seq := [{ Block.fresh with btype := 1, name := #v[0x54, 0x45, 0x53, 0x54, 0x20, 0x20, 0x20, 0x20] }] }) =
      some ("Program: TEST    \n".toList, 0, 1) := by decide
/-- RC-1 (S4) and RC-2 (S5). -/
theorem test_reconstruct_line :
    printed 255 [[0x1E, 0, 0, 0x64, 0x84, 0]] = ("  100 ELSE\n".toList, false, 0) ∧
    printed 255 [[0x1E, 0, 0, 0x64, 0x84, 0, 0, 0, 0]] = ("  100 ELSE\n".toList, false, 0) := by decide
/-- RC-4: the counter is 0x11 after the boundary. -/
theorem test_reconstruct_block_number :
    printed 255 [[0x10, 0, 0, 0xA, 0x41, 0], [0x1E, 0, 0, 0xA, 0x41, 0]] = ("   10 A\n".toList, true, 3) := by decide
/-- RC-17, RC-18: exactly `LINE_MAX` bytes fit. -/
theorem test_read_content_overflow :
    printed 2 [[0x1E, 0, 0, 0xA, 0x41, 0x42, 0x43, 0]] = ([], true, 4) ∧
    printed 3 [[0x1E, 0, 0, 0xA, 0x41, 0x42, 0x43, 0]] = ("   10 ABC\n".toList, false, 0) := by decide
/-- RC-11: the line number is read high byte first. -/
theorem test_line_header :
    got (fun t => (t.ln, t.pos)) (exec .lineHeader (onStream [[0x1E, 0, 0xFF, 0xFE, 0x58]])) =
      some (0xFFFE, 4) := by decide
/-- R235: the boundary increments the counter; D28: no byte left. -/
theorem test_next_byte :
    got (fun t => (t.bi, t.pos, t.ctr, t.ret))
      (exec .nextByte { onStream [[1], [], [7]] with pos := 1, ctr := some 0xFF }) = some (2, 1, some 1, 7) ∧
    got (fun t => (t.hfault, t.hfaultCode)) (exec .nextByte (onStream [])) = some (true, 5) := by decide
/-- RC-5: the successor passes and leaves the counter; RC-4: another byte faults. -/
theorem test_check_block_number :
    got (fun t => (t.ctr, t.hfault)) (exec (.checkBlockNumber 0x1F) { onStream [] with ctr := some 0x1E }) =
      some (some 0x1E, false) ∧
    got (fun t => t.hfaultCode) (exec (.checkBlockNumber 0x20) { onStream [] with ctr := some 0x1E }) = some 3 := by
  decide
/-- RC-12, RC-14: exactly three zero bytes in the current block. -/
theorem test_sentinel :
    got (fun t => t.stop) (exec .sentinel (onStream [[0, 0, 0, 0]])) = some false ∧
    got (fun t => t.stop) (exec .sentinel (onStream [[0, 0, 0], [1]])) = some true := by decide
/-- RC-10: empty content, the number padded to 5 places. -/
theorem test_emit_line : got (fun t => t.text) (exec (.emitLine 5) (onStream [])) = some "    5 \n".toList := by decide
/-- R239. -/
theorem test_normalise :
    got (fun t => (t.bi, t.pos, t.ctr)) (exec .normalise { onStream [[1], []] with pos := 1, ctr := some 5 }) =
      some (1, 0, some 6) := by decide
/-- DT-5, DT-6, DT-8 and the classes' texts. -/
theorem test_detok_text :
    detokOf [0x41, 0x00, 0x07] = (some "A\\x07".toList, 0) ∧ detokOf [0x0A] = (some "\\x0A".toList, 0) ∧
    detokOf [0x84] = (some "ELSE".toList, 0) ∧ detokOf [0xFF, 0x80, 0x41] = (some "FA".toList, 0) := by decide
/-- The Detokenizer's two faults (R266, R267). -/
theorem test_detok_faults :
    detokOf [0xFF, 0x41] = (none, 6) ∧ detokOf [0xFF, 0xA8] = (none, 6) ∧ detokOf [0x41, 0xFF] = (none, 7) := by decide
/-- R265, R263: one unit each. -/
theorem test_detok_units :
    got (fun t => t.dtOut) (exec (.dtEsc 0xFE) running) = some "\\xFE".toList ∧
    got (fun t => t.dtPfx) (exec .dtFnpfx running) = some true ∧
    got (fun t => t.hfaultCode) (exec (.dtFn 0x41) { running with dtPfx := true }) = some 6 := by decide
/-- R303, R304: a raise by each agent. -/
theorem test_raises :
    got (fun t => (t.fault, t.faultCode)) (exec (.blockFault 1) (inState 10)) = some (true, 1) ∧
    got (fun t => (t.hfault, t.hfaultCode)) (exec (.hostFault 7) (onStream [])) = some (true, 7) := by decide
/-- R345 step 5: a loaded sequence is pushed sample by sample. -/
theorem test_boot_pushes_sample :
    fetch { running with samples := [5, 6], idx := 1 } = .issue (.samplePush 6) ∧
    fetch { State.reset with inputs := [[5]] } = .start [5] [] ∧ fetch State.reset = .idle := by decide
/-- R346, I19: a sequence supplied while a run is in progress waits for its end, and then for RESET_ASSERT. -/
theorem test_new_sequence_is_new_run :
    fetch (supply [7] { running with samples := [5, 6], idx := 1 }) = .issue (.samplePush 6) ∧
    fetch (supply [7] { running with samples := [5, 6], idx := 2 }) = .issue .resetAssert ∧
    got (fun t => (t.rst, t.samples, t.inputs, t.idx)) (step (supply [7] { State.reset with samples := [5, 6] })) =
      some (false, [7], [], 0) := by decide
/-- R44: no pending 0xFF outlives its call: not a raise, a printed line, a reset or the start of a run. -/
theorem test_no_prefix_outlives_call :
    (let s := { onStream [] with dtOut := ['A'], dtPfx := true };
      [exec (.dtFn 0x41) s, exec (.hostFault 3) s, exec (.emitLine 5) s, exec .reconstruct s, exec .resetAssert s,
        exec .resetDeassert { s with rst := true }].map (got fun t => (t.dtOut, t.dtPfx)) =
        List.replicate 6 (some ([], false))) := by decide

/-! ## Witnesses: states and operands that meet each obligation's hypotheses, clause by clause -/

/-- A live record the invariant allows makes a state of the invariant, at any cursor. -/
theorem inv_onRecord (b : Block) (n : Word) (h : lawful b) : MachineInv { onRecord b with idx := n } where
  record _ _ := h
  payload := h.1
  store := ⟨Nat.zero_le _, Nat.zero_le _, fun k hk => absurd hk (Nat.not_lt_zero k)⟩
  event h := absurd rfl h
  faultCodes := ⟨(fun h => nomatch h), fun _ => rfl⟩
  hostCodes := ⟨(fun h => nomatch h), fun _ => rfl⟩
  call h := nomatch h
  held h := nomatch h
  cursor := by
    by_cases h : n = 0
    · exact .inr ⟨h, rfl⟩
    · refine .inl (Nat.pos_of_ne_zero fun e => h ?_)
      exact BitVec.eq_of_toNat_eq e
  line := ⟨Nat.zero_le _, Nat.zero_le _⟩

/-- The record before the checksum of an EndOfFile block. -/
def eofRecord : Block := { Block.fresh with state := 10, btype := 3, ck := 0xFF }

theorem lawful_fresh : lawful Block.fresh := ⟨by decide, by decide, rfl⟩
theorem lawful_eofRecord : lawful eofRecord :=
  ⟨by decide, by decide, by decide, ⟨by decide, by decide⟩, by decide⟩

theorem witness_ResetDeassertClearsReset : State.reset.rst = true ∧ running.rst = false := by decide
theorem witness_CfgWriteSetsOneThreshold :
    running.rst = false ∧ State.reset.rst = true ∧ ¬ (31 : Word).toNat > Config.params.threshMax ∧
    (32 : Word).toNat > (vecParams 1 0).threshMax ∧
    (0xFFFFFFFF : Word).toNat > (vecParams 1 0).threshMax ∧ ¬ ((2 : BitVec 2) = 1 ∨ (2 : BitVec 2) = 3) :=
  ⟨rfl, rfl, Nat.not_lt.mpr Config.params.threshMax_ge, by decide, by decide, by decide⟩
theorem witness_EvAckReleasesProgram :
    State.reset.rst = true ∧ { running with fault := true }.fault = true ∧ running.outPending = 0 ∧
    (onStream []).rst = false ∧ (onStream []).fault = false ∧ (onStream []).outPending = 2 ∧
    { running with outPending := 1 }.outPending ≠ 0 ∧ { running with outPending := 1 }.outPending ≠ 2 := by decide
theorem witness_OperationsWithoutEffect :
    (∀ h ∈ handlerRows, ¬ AtByte h.1 running) ∧ ¬ Live running ∧ ¬ Handling running ∧
    (AtByte 2 (needLen 1 0) ∧ (needLen 1 0).blk.btype ≠ 2 ∧ (needLen 1 0).blk.btype ≠ 3 ∧
      (needLen 2 0).blk.btype ≠ 1) ∧
    (inState 1).blk.state ≠ 0 ∧ (inState 1).blk.state ≠ 13 ∧ (inState 1).blk.state ≠ 14 ∧
    (inState 1).blk.state ≠ 15 ∧ (inState 1).active ≠ false ∧
    running.outPending ≠ 1 ∧ ¬ running.outPending ≠ 0 ∧ running.dtPfx = false ∧
    { running with dtPfx := true }.dtPfx = true ∧ { onStream [] with hfault := true }.hfault = true := by decide
theorem witness_SamplePushFollowsSampleStep :
    ¬ Accepting State.reset ∧ (Accepting running ∧ running.idx ≠ 0xFFFFFFFF ∧ ¬ Crossing running.prevNN (-1) running) ∧
    (let s := { running with idx := 1, prevNN := true };
      Accepting s ∧ s.idx ≠ 0xFFFFFFFF ∧ Crossing s.prevNN (-1) s) ∧
    (let s := { running with idx := 0xFFFFFFFE, prevNN := true };
      Accepting s ∧ s.idx ≠ 0xFFFFFFFF ∧ Crossing s.prevNN (-1) s) := by decide
theorem witness_CrossingMeasuresCycle :
    (let s := { inState 0 with idx := 1 };
      Live s ∧ 1 ≤ s.idx.toNat ∧ s.idx ≠ 0xFFFFFFFF) ∧
    (let s := { inState 0 with idx := 0xFFFFFFFE };
      Live s ∧ 1 ≤ s.idx.toNat ∧ s.idx ≠ 0xFFFFFFFF) ∧
    0 ≤ (0 : Sample).toInt ∧ (-1 : Sample).toInt < 0 := by decide
theorem witness_BlockStepsComplete :
    let s := { onRecord Block.fresh with idx := 1 }
    MachineInv s ∧ Live s ∧ Accepting s ∧ s.idx ≠ 0xFFFFFFFF ∧ 1 ≤ s.idx.toNat :=
  ⟨inv_onRecord _ _ lawful_fresh, by decide⟩
theorem witness_ClassifierTestsOneRangeFirst :
    (∀ n ∈ [18, 31], running.oneLo.toNat ≤ n ∧ n ≤ running.oneHi.toNat) ∧
    (∀ n ∈ [32, 0xFFFFFFFF], ¬ n ≤ running.oneHi.toNat ∧ running.zeroLo.toNat ≤ n ∧ n ≤ running.zeroHi.toNat) ∧
    (∀ n ∈ [0, 17], ¬ running.oneLo.toNat ≤ n ∧ ¬ running.zeroLo.toNat ≤ n) := by decide
theorem witness_AllocateZeroesRecord : Accepting running ∧ running.active = false := by decide
theorem witness_SyncSearchChecksEveryBit :
    ∀ w ∈ ([0x3C, 0x3D] : List Byte), Live (onRecord { Block.fresh with shift := w }) ∧
      (onRecord { Block.fresh with shift := w }).blk.state = 0 := by decide
theorem witness_BitStepCountsBits :
    ∀ c ∈ ([1, 11] : List Code), ∀ n ∈ ([0, 6] : List (BitVec 4)),
      let s := onRecord { Block.fresh with state := c, bitcnt := n }
      Live s ∧ 1 ≤ s.blk.state.toNat ∧ s.blk.state.toNat ≤ 11 ∧ s.blk.bitcnt.toNat < 7 := by decide
theorem witness_EighthBitRunsHandler :
    ∀ h ∈ handlerRows, let s := onRecord { Block.fresh with state := h.1, bitcnt := 7 }
      Live s ∧ s.blk.state = h.1 ∧ s.blk.bitcnt = 7 := by decide
theorem witness_ByteFedIsByteCompleted :
    ∀ h ∈ handlerRows, Live (inState h.1) ∧ (inState h.1).blk.state = h.1 ∧ (inState h.1).blk.bitcnt = 0 := by decide
theorem witness_TypeByteSelectsBlock :
    AtByte 1 (inState 1) ∧ ∀ v ∈ ([0x02, 0xFE] : List Byte), v ≠ 0x00 ∧ v ≠ 0x01 ∧ v ≠ 0xFF := by decide
/-- Lengths 14, 15, 16 of a Name block, 0 and 1 of an EndOfFile block, and every other type: each clause is met. -/
theorem witness_LengthByteJudgesFrame :
    (∀ bt ∈ ([0, 1, 2, 3] : List (BitVec 2)), AtByte 2 (needLen bt 0) ∧ (needLen bt 0).blk.btype = bt) ∧
    (14 : Byte) ≠ 15 ∧ (16 : Byte) ≠ 15 ∧ (1 : Byte) ≠ 0 := by decide
theorem witness_NameByteIsStored :
    ∀ n ∈ ([0, 7] : List (BitVec 4)), let s := onRecord { Block.fresh with state := 3, nidx := n }
      s.blk.nidx.toNat < 8 ∧ AtByte 3 s := by decide
theorem witness_FlagBytesAreStored : AtByte 4 (inState 4) ∧ AtByte 5 (inState 5) ∧ AtByte 6 (inState 6) := by decide
theorem witness_AddressBytesAreStored :
    ∀ k ∈ ([0, 1] : List (BitVec 2)), ∀ c ∈ ([7, 8] : List Code),
      let s := onRecord { Block.fresh with state := c, aidx := k, startAddr := 0x12AB, loadAddr := 0x12AB }
      s.blk.aidx.toNat < 2 ∧ AtByte c s ∧
      (0xABCD : BitVec 16).toNat = 256 * (s.blk.startAddr.toNat % 256) + (0xCD : Byte).toNat ∧
      (0xABCD : BitVec 16).toNat = 256 * (s.blk.loadAddr.toNat % 256) + (0xCD : Byte).toNat := by decide
theorem witness_DataByteIsStored :
    (let s := onRecord { Block.fresh with state := 9, btype := 2, len := 1 };
      AtByte 9 s ∧ s.blk.didx.toNat < s.blk.len.toNat ∧ Memory.wf s.blk.payload) ∧
    (let s := onRecord { Block.fresh with state := 9, btype := 2, didx := 254, len := 255 };
      AtByte 9 s ∧ s.blk.didx.toNat < s.blk.len.toNat ∧ Memory.wf s.blk.payload) := by decide
theorem witness_ChecksumByteIsCompared :
    AtByte 10 (onRecord eofRecord) ∧ 0xFF = (onRecord eofRecord).blk.ck ∧ 0 ≠ (onRecord eofRecord).blk.ck := by decide
theorem witness_DoneAppendsRecord :
    AtByte 11 (inState 11) ∧ (inState 11).seqLen < Config.params.seqCap ∧
    AtByte 11 { inState 11 with seqLen := Config.params.seqCap } :=
  ⟨by decide, Config.params.seqCap_pos, (by decide : AtByte 11 (inState 11))⟩
theorem witness_BlockRaiseSetsFault :
    (∀ c ∈ ([13, 14, 15] : List Code), Live (inState c) ∧ 13 ≤ (inState c).blk.state.toNat) ∧
    ∀ c ∈ ([1, 2, 8] : List Code), isBlockCode c = true ∧ Live (inState 11) := by decide
theorem witness_HostRaiseSetsHostFault :
    (onStream []).outPending ≠ 0 ∧ (onStream []).hfault = false ∧
    ∀ c ∈ ([3, 4, 5, 6, 7] : List Code), isHostCode c = true := by decide
theorem witness_FaultIsStickyUntilReset :
    let s := { inState 10 with fault := true, faultCode := 1 }
    s.fault = true ∧ s.rst = false ∧ ∃ t, exec (.samplePush 1) s = .next t := ⟨rfl, rfl, _, rfl⟩
theorem witness_PendingEventStallsBlock :
    (onStream []).outPending ≠ 0 ∧ (onStream []).rst = false ∧ hostSide (.samplePush 1) = false ∧
    ∃ t, exec (.samplePush 1) (onStream []) = .next t := ⟨by decide, rfl, rfl, _, rfl⟩
theorem witness_ModelRefusesOutsideSpec :
    Accepting { running with idx := 0xFFFFFFFF } ∧ decode ⟨.portOp, [8]⟩ = .error .noSuchCode ∧
    { running with queue := [⟨.portOp, [8]⟩] }.queue = ⟨.portOp, [8]⟩ :: [] := by decide
theorem witness_ThresholdsFixedDuringRun :
    running.rst = false ∧ ∃ t, exec (.cfgWrite 0 5) running = .next t := ⟨rfl, _, rfl⟩
theorem witness_CursorAdvancesByOne :
    (∃ t, exec .resetAssert running = .next t) ∧ (∃ t, exec (.samplePush 1) running = .next t) ∧
    (∃ t, exec (.crossing 0 (-1)) (inState 0) = .next t) ∧ ∃ t, exec .evAck running = .next t :=
  ⟨⟨_, rfl⟩, ⟨_, rfl⟩, ⟨_, rfl⟩, ⟨_, rfl⟩⟩
theorem witness_StoredRecordsAreNeverModified :
    (∃ t, exec (.stNeedData 7) { onRecord { Block.fresh with state := 9, len := 1 } with
      seq := [Block.fresh], seqLen := 1 } = .next t) ∧
    ∃ t, exec .evAck { onStream [] with seq := [Block.fresh], seqLen := 1 } = .next t := ⟨⟨_, rfl⟩, _, rfl⟩
theorem witness_AgentsKeepToTheirState :
    (∃ t, exec (.samplePush 1) running = .next t) ∧ hostSide (.samplePush 1) = false ∧
    (∃ t, exec .reconstruct (onStream []) = .next t) ∧ hostSide .reconstruct = true :=
  ⟨⟨_, rfl⟩, rfl, ⟨_, rfl⟩, rfl⟩
theorem witness_ReadPortShowsCommittedStore :
    (running.outPending = 0 ∧ running.fault = false) ∧ (onStream []).outPending ≠ 0 ∧
    { running with fault := true }.fault = true := by decide

/-- A completed EndOfFile record. -/
def eofDone : Block := { eofRecord with state := 12, ckrx := 0xFF }
/-- A Data record with RC-10's payload. -/
def rc10Record : Block :=
  { Block.fresh with state := 12, btype := 2, len := 5, payload := [(0, 0x1E), (3, 5)] }
/-- A PROGRAM event with a store of both. -/
def onProgram : State := { running with outPending := 2, seq := [rc10Record, eofDone], seqLen := 2 }

theorem witness_OnNamePrintsHeader :
    let s := { running with outPending := 1, seq := [Block.fresh], seqLen := 1 }
    s.rst = false ∧ s.fault = false ∧ s.outPending = 1 ∧ s.hfault = false ∧ 1 ≤ s.seqLen := by decide
theorem witness_ReconstructEndsOrFaults :
    onProgram.rst = false ∧ onProgram.fault = false ∧ Handling onProgram := by decide
theorem witness_BlockNumberIsChecked :
    (∀ c, Handling { onStream [] with ctr := c }) ∧
    (0x00 : Byte) = 0xFF + 1 ∧ (7 : Byte) ≠ 5 ∧ (7 : Byte) ≠ 5 + 1 := ⟨fun _ => ⟨rfl, rfl⟩, by decide⟩
theorem witness_NormaliseSkipsExhaustedBlocks :
    let s := { onStream [[1], [], [7]] with pos := 1 }
    Handling s ∧ s.pos ≤ (curBlock s).length := by decide
theorem witness_NextByteReadsVirtualStream :
    (let s := { onStream [[1], [], [7]] with pos := 1 };
      Handling s ∧ s.pos ≤ (curBlock s).length ∧ stream s = 7 :: []) ∧
    (let s := { onStream [[1]] with pos := 1 };
      Handling s ∧ s.pos ≤ (curBlock s).length ∧ stream s = []) := by decide
theorem witness_LineHeaderFormsLineNumber :
    (let s := onStream [[1, 2], [3, 4]];
      Handling s ∧ s.pos ≤ (curBlock s).length ∧ stream s = 1 :: 2 :: 3 :: 4 :: []) ∧
    (let s := onStream [[1, 2, 3]];
      Handling s ∧ s.pos ≤ (curBlock s).length ∧ (stream s).length < 4) := by decide
theorem witness_ReadContentStopsAtTerminator :
    (let s := onStream [[0]];
      Handling s ∧ s.pos ≤ (curBlock s).length ∧ stream s = [] ++ 0 :: []) ∧
    (let c := List.replicate (Config.params.lineMax + 1) (1 : Byte);
      Handling (onStream [c]) ∧ (0 : Byte) ∉ c ∧ c.length = Config.params.lineMax + 1 ∧
        stream (onStream [c]) = c ++ []) ∧
    (let s := onStream [[]];
      Handling s ∧ s.pos ≤ (curBlock s).length ∧ stream s = []) := by
  refine ⟨by decide, ⟨⟨rfl, rfl⟩, ?_, List.length_replicate, rfl⟩, by decide⟩
  intro h
  exact absurd (List.eq_of_mem_replicate h) (by decide)
theorem witness_EmitLinePrintsLine :
    Handling (onStream []) ∧ detok Config.params ((onStream []).lbuf.take (onStream []).llen) = .ok [] ∧
    (let s := { onStream [] with lbuf := [0xFF], llen := 1 };
      Handling s ∧ detok Config.params (s.lbuf.take s.llen) = .error 7) := ⟨by decide, rfl, by decide, rfl⟩
theorem witness_SentinelLooksAtCurrentBlock :
    Handling (onStream [[0, 0, 0]]) ∧ (onStream [[0, 0, 0]]).pos ≤ (curBlock (onStream [[0, 0, 0]])).length := by decide
theorem witness_LineLoopPassesSuffice :
    (onStream [[1, 2]]).pos ≤ (curBlock (onStream [[1, 2]])).length ∧ remaining (onStream [[1, 2]]) + 1 ≤ 3 := by decide
/-- RC-10: one line, number 5, no content. -/
theorem witness_ReconstructPrintsLines :
    onProgram.rst = false ∧ onProgram.fault = false ∧ Handling onProgram ∧
    (∀ l ∈ ([(0, 5, [], [])] : List (Byte × BitVec 16 × List Byte × Text)),
      (0 : Byte) ∉ l.2.2.1 ∧ l.2.2.1.length ≤ Config.params.lineMax ∧ detok Config.params l.2.2.1 = .ok l.2.2.2) ∧
    (((List.range onProgram.seqLen).map (seqEntry onProgram)).filter fun b => b.btype = 2).map
      (fun b => (List.range b.len.toNat).map (memRead b.payload)) = [([(0, 5, [], [])] : List (Byte × BitVec 16 × List Byte × Text)).flatMap
      fun l => lineBytes 0x1E l.1 l.2.1 l.2.2.1] := by
  refine ⟨rfl, rfl, by decide, fun l hl => ?_, by decide⟩
  obtain rfl := List.mem_singleton.mp hl
  exact ⟨List.not_mem_nil, Nat.zero_le _, rfl⟩
theorem witness_DetokUnitAppendsText :
    running.hfault = false ∧ running.dtPfx = false ∧ { running with dtPfx := true }.dtPfx = true := by decide
theorem witness_DetokIsRunOfUnits : running.hfault = false ∧ running.dtOut = [] ∧ running.dtPfx = false := by decide
theorem witness_DataFrameIsAppended :
    (List.replicate 255 (0xAA : Byte)).length ≤ 255 ∧ Live (inState 0) ∧ (inState 0).blk.state = 0 ∧
    (inState 0).blk.shift = 0 ∧ Memory.wf (inState 0).blk.payload ∧ (inState 0).seqLen < Config.params.seqCap :=
  ⟨Nat.le_of_eq List.length_replicate, by decide, rfl, rfl, by decide, Config.params.seqCap_pos⟩
/-- P2's frame: the checksum 0x69 in place of 0x68. -/
theorem witness_WrongChecksumRaisesIntegrity :
    Live (inState 0) ∧ (inState 0).blk.state = 0 ∧ (inState 0).blk.shift = 0 ∧
    (0x69 : Byte) ≠ frameChecksum 0x01 [0xAA, 0xBB] ∧ frameChecksum 0x01 [0xAA, 0xBB] = 0x68 := by decide
theorem witness_NameAndEofFramesRaiseEvents :
    Live (inState 0) ∧ (inState 0).blk.state = 0 ∧ (inState 0).blk.shift = 0 ∧
    (inState 0).seqLen < Config.params.seqCap := ⟨by decide, rfl, rfl, Config.params.seqCap_pos⟩
/-- CD-8's samples, in part. -/
theorem witness_DetectorEqualsSourceScan :
    ([5, -3, 1, -1] : List Sample).length ≤ 2 ^ 32 - 1 ∧ running.idx = 0 ∧ running.lastX = 0 ∧
    sourceScan [5, -3, 1, -1] = [(1, 1), (3, 2)] := by decide
/-- The shortest cycle, and a bit. -/
theorem witness_StimulusHasItsCycles :
    ∀ i ∈ [Stim.cyc 2, Stim.bit true], i ≠ .start ∧ i ≠ .finish ∧ (∀ v, i ≠ .one v) ∧ ∀ n ∈ i.cycles, 2 ≤ n := by
  intro i hi
  rcases List.mem_cons.mp hi with rfl | hi
  · exact ⟨nofun, nofun, nofun, by decide⟩
  · obtain rfl := List.mem_singleton.mp hi
    exact ⟨nofun, nofun, nofun, by decide⟩
theorem witness_DecodeInvertsEncode : WellFormed (.crossing 0 (-1)) = true ∧ WellFormed (.dtEsc 0xE0) = true := by decide
theorem witness_EncodeInvertsDecode : decode ⟨.fsmState, [9, 0x41, 0x99]⟩ = .ok (.stNeedData 0x41) := by decide
theorem witness_StepRunsDecodedUnit :
    { running with queue := [⟨.portOp, [0]⟩] }.queue = ⟨.portOp, [0]⟩ :: [] ∧ decode ⟨.portOp, [0]⟩ = .ok .nop := by
  decide
theorem witness_StepFollowsBootSequence :
    State.reset.queue = [] ∧ State.reset.rst = true ∧ State.reset.inputs = [] ∧
    (supply [5] State.reset).inputs = [5] :: [] ∧ ([5] : List Sample).length ≤ 2 ^ 32 - 1 ∧
    (let s := supply [5] { running with samples := [6], idx := 1 };
      s.queue = [] ∧ runEnded s = true ∧ s.rst = false ∧ s.inputs = [5] :: []) ∧
    (∀ e ∈ ([0, 1, 2] : List (BitVec 2)), let s := { running with samples := [5], outPending := e }
      s.queue = [] ∧ s.rst = false ∧ s.fault = false ∧ s.hfault = false ∧ s.outPending = e ∧
      s.samples[s.idx.toNat]? = some 5) := by decide
theorem witness_StepKeepsInvariant :
    let s := { onRecord Block.fresh with idx := 1 }
    MachineInv s ∧ ∃ t, step s = .next t := ⟨inv_onRecord _ _ lawful_fresh, _, rfl⟩
theorem witness_StepNeverFaults : MachineInv { onRecord Block.fresh with idx := 1 } := inv_onRecord _ _ lawful_fresh
theorem witness_OnlyTheRightChecksumPasses :
    let s := { onRecord eofRecord with idx := 1 }
    MachineInv s ∧ AtByte 10 s ∧ (0xFF : Byte) = fullSum s.blk ∧ (0 : Byte) ≠ fullSum s.blk ∧
    (∃ t, exec (.stNeedCksum 0xFF) s = .next t) ∧ ∃ t, exec (.stNeedCksum 0) s = .next t :=
  ⟨inv_onRecord _ _ lawful_eofRecord, by decide, by decide, by decide, ⟨_, rfl⟩, ⟨_, rfl⟩⟩
theorem inv_reset_loaded (xs : List Sample) : MachineInv (supply xs State.reset) where
  record h := nomatch h
  payload := lawful_fresh.1
  store := ⟨Nat.zero_le _, Nat.zero_le _, fun k hk => absurd hk (Nat.not_lt_zero k)⟩
  event h := absurd rfl h
  faultCodes := ⟨(fun h => nomatch h), fun _ => rfl⟩
  hostCodes := ⟨(fun h => nomatch h), fun _ => rfl⟩
  call h := nomatch h
  held _ := ⟨rfl, rfl, rfl, rfl, rfl⟩
  cursor := .inr ⟨rfl, rfl⟩
  line := ⟨Nat.zero_le _, Nat.zero_le _⟩
theorem witness_RunEnds :
    (let s := supply [5, -3] State.reset;
      MachineInv s ∧ s.queue = [] ∧ ([5, -3] : List Sample).length ≤ 2 ^ 32 - 1 ∧ s.rst = true ∧
      s.inputs = [5, -3] :: []) ∧
    (let s := { onRecord Block.fresh with idx := 0 };
      MachineInv s ∧ s.queue = [] ∧ s.rst = false ∧ s.samples = []) :=
  ⟨⟨inv_reset_loaded _, by decide⟩, inv_onRecord _ _ lawful_fresh, rfl, rfl, rfl⟩

end Tests
end Sys2Proof
end

/-! PROOF. The registers of the state (R21, R43): which operations move the cursor, and what the read port shows. -/

namespace Sys2Proof
namespace Machine

/-! ## The cursor (R21) -/

/-- Away from the last index, which the launch premise leaves out, the cursor's successor does not wrap (D3). -/
theorem toNat_succ_of_ne_allOnes {w : Word} (h : w ≠ BitVec.allOnes 32) : (w + 1).toNat = w.toNat + 1 := by
  rw [Ne, ← BitVec.toNat_inj, BitVec.toNat_allOnes] at h
  bv_omega

@[simp] theorem ackEvent_idx (s : State) : (ackEvent s).idx = s.idx := by
  rcases ackEvent_cases s with h | ⟨_, _, _, h⟩ <;> rw [h]

@[simp] theorem writeThreshold_idx (reg : BitVec 2) (v : Word) (s : State) : (writeThreshold reg v s).idx = s.idx := by
  unfold writeThreshold
  split_ifs <;> rfl

theorem hostOnly_idx {s t : State} (h : hostOnly s t) : t.idx = s.idx := by
  obtain ⟨⟨hidx, _⟩, _⟩ := h
  exact hidx

theorem bitEffect_idx {s t : State} (h : BitEffect s t) : t.idx = s.idx := by
  cases h with
  | record => rfl
  | raised => rfl
  | committed => exact commitBlock_idx _

/-- What an operation other than RESET_ASSERT can do to the cursor: nothing, or advance it by the one sample it takes. -/
theorem effect_idx {i : Instr} {s t : State} (h : Effect i s t) (hi : i ≠ .resetAssert) :
    t.idx = s.idx ∨ (∃ x, i = .samplePush x ∨ ∃ y, i = .crossing y x) ∧ t.idx.toNat = s.idx.toNat + 1 := by
  cases h with
  | same => exact .inl rfl
  | reset hr => exact absurd hr hi
  | deassert => exact .inl rfl
  | threshold reg v => exact .inl (writeThreshold_idx reg v s)
  | ack => exact .inl (ackEvent_idx s)
  | allocated => exact .inl (allocate_idx s)
  | raisedBy c => exact .inl (raiseBlock_idx c s)
  | bit _ _ _ hb => exact .inl (bitEffect_idx hb)
  | sample _ _ x hx _ _ hne _ _ hb =>
    refine .inr ⟨⟨x, hx⟩, ?_⟩
    rw [bitEffect_idx hb]
    exact toNat_succ_of_ne_allOnes hne
  | host _ _ ho => exact .inl (hostOnly_idx ho)
  | handled _ _ _ ho => exact .inl ((ackEvent_idx _).trans (hostOnly_idx ho))

/-- Settles O29: RESET_ASSERT by its own equation, every other operation by `effect_idx`. -/
theorem cursorAdvancesByOne : Obligations.CursorAdvancesByOne := by
  intro i s t e
  have heffect := exec_effect e
  split
  case h_1 =>
    cases e
    exact resetBlock_idx s
  case h_2 => exact (effect_idx heffect nofun).imp_right And.right
  case h_3 => exact (effect_idx heffect nofun).imp_right And.right
  case h_4 hreset hpush hcross =>
    rcases effect_idx heffect hreset with h | ⟨⟨x, hx | ⟨y, hx⟩⟩, _⟩
    · exact h
    · exact (hpush x hx).elim
    · exact (hcross y x hx).elim

/-! ## The read port (R43) -/

/-- The host may read the store while an event is pending or after a fault, as the statements write it (R43). -/
theorem readable_iff (s : State) : readable s = true ↔ s.outPending ≠ 0 ∨ s.fault = true := by
  simp [readable, evNone]

theorem readSeq_of_not_readable {s : State} (h : readable s = false) (k : Nat) : readSeq s k = none := by
  simp [readSeq, h]

theorem readSeq_of_readable {s : State} (h : readable s = true) (k : Nat) :
    readSeq s k = if k < s.seqLen then some (seqEntry s k) else none := by
  simp [readSeq, h]

theorem hostView_store_of_not_readable {s : State} (h : readable s = false) : (hostView s).store = none := by
  simp [hostView, h]

theorem hostView_store_of_readable {s : State} (h : readable s = true) :
    (hostView s).store = some ((List.range s.seqLen).map (seqEntry s)) := by
  simp [hostView, h]

/-- Settles O32: the read port is the store below `SEQ_LEN` where it is readable, and nothing elsewhere. -/
theorem readPortShowsCommittedStore : Obligations.ReadPortShowsCommittedStore := by
  intro s k
  constructor
  · intro hpending hfault
    have hr : readable s = false := by simp [← Bool.not_eq_true, readable_iff, hpending, hfault]
    exact ⟨readSeq_of_not_readable hr k, hostView_store_of_not_readable hr⟩
  · intro h
    have hr : readable s = true := (readable_iff s).mpr h
    refine ⟨readSeq_of_readable hr k, _, hostView_store_of_readable hr, by simp, fun j hj => ?_⟩
    simp [hj]

end Machine
end Sys2Proof

/-! PROOF. The memory model (R60 to R69): every access an operation makes exists (R64, R43), a stored record stays as it
was appended (R65), and the block and the host each write their own registers (R63). -/

namespace Sys2Proof
namespace Machine

/-! ## Accesses exist (R28, R43, R64) -/

/-- The operation answers without a fault of the model (log 13). -/
def NoFault (r : Res) : Prop := ∀ f, r ≠ .fault f

theorem noFault_next (s : State) : NoFault (.next s) := nofun

theorem noFault_refused (w : Refusal) : NoFault (.refused w) := nofun

theorem noFault_ite {c : Prop} [Decidable c] {a b : Res} (ha : c → NoFault a) (hb : NoFault b) :
    NoFault (if c then a else b) := by
  split
  · exact ha ‹_›
  · exact hb

theorem noFault_atState {c : Code} {f : State → Res} {s : State} (h : AtByte c s → NoFault (f s)) :
    NoFault (atState c f s) :=
  noFault_ite (fun hc => h ((atByte_iff c s).mp hc)) (noFault_next s)

theorem noFault_atState_next (c : Code) (f : State → State) (s : State) :
    NoFault (atState c (fun t => .next (f t)) s) :=
  noFault_atState fun _ => noFault_next _

/-- What a handler relies on to stay inside the record. Neither the shift register nor the bit counter matters. -/
structure InBounds (b : Block) : Prop where
  /-- The state is neither Done nor a reserved code (R28). -/
  state_le : b.state.toNat ≤ 11
  /-- In NeedName the index is inside `NAME` (R39). -/
  name : b.state = stNeedName → b.nidx.toNat < Config.nameChars
  /-- In NeedData the index is below `LEN` (R64). -/
  data : b.state = stNeedData → b.didx.toNat < b.len.toNat

theorem inBounds_fresh : InBounds Block.fresh := ⟨by decide, by decide, by decide⟩

theorem lawful_inBounds {b : Block} (h : lawful b) : InBounds b := by
  obtain ⟨_, _, hlaw⟩ := h
  constructor
  · by_contra hgt
    have hstate : b.state.toNat = 12 ∨ b.state.toNat = 13 ∨ b.state.toNat = 14 ∨ b.state.toNat = 15 := by omega
    rcases hstate with h | h | h | h <;> simp [stateLaw, h] at hlaw
  · intro hname
    rw [stateLaw, hname] at hlaw
    obtain ⟨_, _, hnidx, _⟩ := hlaw
    exact hnidx
  · intro hdata
    rw [stateLaw, hdata] at hlaw
    obtain ⟨_, hdidx, _⟩ := hlaw
    exact hdidx

theorem needName_noFault {s : State} (v : Byte) (h : s.blk.nidx.toNat < Config.nameChars) :
    NoFault (needName v s) := by
  rw [needName, dif_pos h]
  exact noFault_next _

theorem needData_noFault {s : State} (v : Byte) (h : s.blk.didx.toNat < s.blk.len.toNat) :
    NoFault (needData v s) := by
  rw [needData, if_pos h]
  exact noFault_next _

/-- In every aligned state the completed byte has a handler, and the handler stays inside the record (R173). -/
theorem byteHandler_noFault (p : Params) (v : Byte) {s : State} (h0 : s.blk.state ≠ 0) (h : InBounds s.blk) :
    NoFault (byteHandler p v s) := by
  obtain ⟨hstate, hname, hdata⟩ := h
  unfold byteHandler
  split
  case h_3 h3 => exact needName_noFault v (hname (BitVec.eq_of_toNat_eq h3))
  case h_9 h9 => exact needData_noFault v (hdata (BitVec.eq_of_toNat_eq h9))
  case h_12 =>
    have hne : s.blk.state.toNat ≠ 0 := fun h => h0 (BitVec.eq_of_toNat_eq h)
    grind
  all_goals exact noFault_next _

theorem bitStep_noFault (p : Params) (c : Bool) {s : State} (h : InBounds s.blk) : NoFault (bitStep p c s) := by
  by_cases h0 : s.blk.state = 0
  · rw [bitStep_sync h0]
    exact noFault_next _
  · have hpos : s.blk.state.toNat ≠ 0 := fun e => h0 (BitVec.eq_of_toNat_eq e)
    have hle := h.state_le
    rw [bitStep_aligned (by omega) (by omega)]
    exact noFault_ite (fun _ => byteHandler_noFault p _ h0 ⟨h.state_le, h.name, h.data⟩) (noFault_next _)

theorem deliver_noFault (p : Params) (c : BitClass) {s : State} (h : InBounds s.blk) : NoFault (deliver p c s) := by
  cases c with
  | bit0 => exact bitStep_noFault p false h
  | bit1 => exact bitStep_noFault p true h
  | none => exact noFault_next s

theorem detect_noFault (p : Params) (b : Bool) (x : Sample) {s : State} (h : InBounds s.blk) :
    NoFault (detect p b x s) := by
  refine noFault_ite (fun _ => noFault_refused _) ?_
  by_cases hc : Crossing b x s
  · rw [advance_of_crossing hc]
    exact deliver_noFault p _ h
  · rw [advance_of_no_crossing hc]
    exact noFault_next _

theorem lengthOf_noFault (bt : BitVec 2) (v : Byte) (s : State) : NoFault (lengthOf bt v s) :=
  noFault_ite (fun _ => noFault_atState fun _ => noFault_next _) (noFault_next s)

section
variable {s : State}

/-- Under the invariant a live record is inside its bounds. -/
theorem inBounds_of_inv (h : MachineInv s) (hl : Live s) : InBounds s.blk := by
  obtain ⟨⟨_, hfault, _⟩, hactive⟩ := hl
  exact lawful_inBounds (h.record hactive hfault)

/-- Under the invariant the host handling an event finds the record the event names (R41, R43). -/
theorem readSeq_last_of_inv (h : MachineInv s) (ho : s.outPending ≠ 0) :
    readSeq s (s.seqLen - 1) = some (seqEntry s (s.seqLen - 1)) := by
  obtain ⟨_, _, _, hlen, _⟩ := h.event ho
  rw [readSeq_of_readable ((readable_iff s).mpr (.inl ho)), if_pos (by omega)]

theorem deliver_noFault_of_inv (h : MachineInv s) (c : BitClass) :
    NoFault (if live s then deliver Config.params c s else .next s) :=
  noFault_ite (fun hl => deliver_noFault _ c (inBounds_of_inv h ((live_iff s).mp hl))) (noFault_next s)

theorem samplePush_noFault_of_inv (h : MachineInv s) (x : Sample) : NoFault (samplePush Config.params x s) := by
  refine noFault_ite (fun ha => ?_) (noFault_next s)
  cases hact : s.active with
  | false => exact detect_noFault _ _ x inBounds_fresh
  | true => exact detect_noFault _ _ x (inBounds_of_inv h ⟨(accepts_iff s).mp ha, hact⟩)

theorem onName_noFault_of_inv (h : MachineInv s) :
    NoFault (if s.outPending == evName && !s.hfault then onName s else .next s) := by
  refine noFault_ite (fun hg => ?_) (noFault_next s)
  have ho : s.outPending = 1 := by simpa [evName] using (Bool.and_eq_true_iff.mp hg).1
  rw [onName, readSeq_last_of_inv h (by rw [ho]; decide)]
  exact noFault_next _

/-- No operation meets an access that does not exist. The rows that could are those that run a handler on the live
record (a sample, a bit, NeedName, NeedData) and those that read the last record through the port; the last line is the
rows that answer a next state in every state. -/
theorem exec_noFault_of_inv (h : MachineInv s) (i : Instr) : NoFault (exec i s) := by
  cases i with
  | samplePush x => exact samplePush_noFault_of_inv h x
  | crossing prev cur =>
    exact noFault_ite (fun hl => detect_noFault _ _ cur (inBounds_of_inv h ((live_iff s).mp hl))) (noFault_next s)
  | bitstep c =>
    exact noFault_ite (fun hl => bitStep_noFault _ c (inBounds_of_inv h ((live_iff s).mp hl))) (noFault_next s)
  | clsBit0 | clsBit1 | clsNone => exact deliver_noFault_of_inv h _
  | stNeedName v =>
    exact noFault_atState fun ⟨hlive, hstate, _⟩ => needName_noFault v ((inBounds_of_inv h hlive).name hstate)
  | stNeedData v =>
    exact noFault_atState fun ⟨hlive, hstate, _⟩ => needData_noFault v ((inBounds_of_inv h hlive).data hstate)
  | onName | evName => exact onName_noFault_of_inv h
  | lenName | lenEof | lenData => exact lengthOf_noFault _ _ s
  | cfgWrite reg v =>
    exact noFault_ite (fun _ => noFault_ite (fun _ => noFault_next _) (noFault_refused _)) (noFault_next s)
  | clsReserved | evReserved | fltReserved => exact noFault_refused _
  | stNeedBlockType | stNeedLength | stNeedFileType | stNeedAsciiFlag | stNeedGapFlag | stNeedStartAddr
  | stNeedLoadAddr | stNeedCksum | stNeedLeadByte | stDone | typeName | typeData | typeEof | typeInvalid
  | cksum | leadByte => exact noFault_atState_next _ _ s
  | _ => exact noFault_next _

/-- Taking a unit off the queue touches no register the invariant speaks of. -/
theorem inv_popQueue (h : MachineInv s) : MachineInv (popQueue s) where
  record := h.record
  payload := h.payload
  store := h.store
  event := h.event
  faultCodes := h.faultCodes
  hostCodes := h.hostCodes
  call := h.call
  held := h.held
  cursor := h.cursor
  line := h.line

end

/-- Settles O58: whatever is fetched, its operation runs in a state of the invariant, but for the RESET_DEASSERT that
starts a run, which answers a next state in every state. -/
theorem stepNeverFaults : Obligations.StepNeverFaults := by
  intro s r h
  suffices NoFault (step s) from this r
  unfold step
  split
  case h_1 i _ => exact exec_noFault_of_inv (inv_popQueue h) i
  case h_4 i _ => exact exec_noFault_of_inv h i
  case h_2 | h_5 => exact noFault_refused _
  case h_3 | h_6 => exact noFault_next _

/-! ## Stored records (R65, R311, R340) -/

/-- The store holds at least what it held, every entry the same record (R65). -/
def KeepsStore (s t : State) : Prop := s.seqLen ≤ t.seqLen ∧ ∀ k < s.seqLen, seqEntry t k = seqEntry s k

theorem keepsStore_of_eq {s t : State} (hseq : t.seq = s.seq) (hlen : t.seqLen = s.seqLen) : KeepsStore s t :=
  ⟨hlen.ge, fun k _ => by rw [seqEntry, seqEntry, hseq]⟩

theorem hostOnly_keepsStore {s t : State} (h : hostOnly s t) : KeepsStore s t := by
  obtain ⟨⟨_, _, _, _, _, _, _, _, _, hseq, hlen, _⟩, _⟩ := h
  exact keepsStore_of_eq hseq hlen

theorem KeepsStore.trans {s t u : State} (h : KeepsStore s t) (h' : KeepsStore t u) : KeepsStore s u :=
  ⟨h.1.trans h'.1, fun k hk => (h'.2 k (hk.trans_le h.1)).trans (h.2 k hk)⟩

/-- The append writes the entry at `SEQ_LEN`, past every stored record (R189). -/
theorem commitBlock_keepsStore (s : State) : KeepsStore s (commitBlock s) :=
  ⟨Nat.le_succ s.seqLen, fun _ hk => storeAt_getElem?_lt Block.fresh s.blk s.seq hk⟩

theorem bitEffect_keepsStore {s t : State} (h : BitEffect s t) : KeepsStore s t := by
  cases h with
  | record | raised => exact keepsStore_of_eq rfl rfl
  | committed b => exact commitBlock_keepsStore { s with blk := b }

theorem writeThreshold_keepsStore (reg : BitVec 2) (v : Word) (s : State) : KeepsStore s (writeThreshold reg v s) := by
  unfold writeThreshold
  split_ifs <;> exact keepsStore_of_eq rfl rfl

/-- EV_ACK releases the store where the pending event is PROGRAM, and keeps it otherwise (R311). -/
theorem ackEvent_store (s : State) :
    ((ackEvent s).seqLen = 0 ∧ s.outPending = 2) ∨ KeepsStore s (ackEvent s) := by
  rcases ackEvent_cases s with h | ⟨_, _, _, h⟩ <;> rw [h]
  · exact .inr (keepsStore_of_eq rfl rfl)
  · by_cases hp : s.outPending = 2
    · exact .inl ⟨if_pos hp, hp⟩
    · exact .inr (keepsStore_of_eq rfl (if_neg hp))

/-- An operation releases the store, and is then one of those that may (R311, R340), or keeps it. -/
theorem effect_store {i : Instr} {s t : State} (h : Effect i s t) :
    t.seqLen = 0 ∧ (i = .resetAssert ∨ s.outPending = 2 ∧ (i = .evAck ∨ i = .reconstruct ∨ i = .evProgram)) ∨
      KeepsStore s t := by
  cases h with
  | same | deassert | allocated | raisedBy => exact .inr (keepsStore_of_eq rfl rfl)
  | reset hi => exact .inl ⟨resetBlock_seqLen s, .inl hi⟩
  | threshold reg v => exact .inr (writeThreshold_keepsStore reg v s)
  | ack hi => exact (ackEvent_store s).imp_left fun ⟨hlen, hp⟩ => ⟨hlen, .inr ⟨hp, .inl hi⟩⟩
  | bit _ _ _ hb => exact .inr (bitEffect_keepsStore hb)
  | sample s1 _ _ _ _ h1 _ _ _ hb =>
    have hs1 : KeepsStore s s1 := by
      rcases h1 with ⟨rfl, _⟩ | ⟨rfl, _⟩ <;> exact keepsStore_of_eq rfl rfl
    have hbit := bitEffect_keepsStore hb
    exact .inr (hs1.trans hbit)
  | host _ _ ho => exact .inr (hostOnly_keepsStore ho)
  | handled u _ he ho =>
    have hpending : u.outPending = s.outPending := by
      obtain ⟨⟨_, _, _, _, _, _, _, _, _, _, _, hp, _⟩, _⟩ := ho
      exact hp
    rcases ackEvent_store u with ⟨hlen, hp⟩ | hkeep
    · have hprogram : s.outPending = 2 := hpending ▸ hp
      rcases he with ⟨_, hi⟩ | ⟨hname, _⟩
      · exact .inl ⟨hlen, .inr ⟨hprogram, .inr hi⟩⟩
      · exact absurd (hname.symm.trans hprogram) (by decide)
    · exact .inr ((hostOnly_keepsStore ho).trans hkeep)

/-- Settles O30: the inversion of `exec`, effect by effect. -/
theorem storedRecordsAreNeverModified : Obligations.StoredRecordsAreNeverModified :=
  fun _ _ _ e => effect_store (exec_effect e)

/-! ## The two agents (R63, R230) -/

/-- Nothing changed but registers of the block. -/
abbrev BlockOnly (s t : State) : Prop := sameInputs s t ∧ sameHost s t ∧ sameCall s t

theorem blockOnly_refl (s : State) : BlockOnly s s := by simp [BlockOnly, sameInputs, sameHost, sameCall]

theorem bitEffect_blockOnly {s t : State} (h : BitEffect s t) : BlockOnly s t := by
  cases h with
  | record | raised | committed => exact blockOnly_refl s

theorem writeThreshold_blockOnly (reg : BitVec 2) (v : Word) (s : State) : BlockOnly s (writeThreshold reg v s) := by
  unfold writeThreshold
  split_ifs <;> exact blockOnly_refl s

theorem ackEvent_blockOnly (s : State) : BlockOnly s (ackEvent s) := by
  rcases ackEvent_cases s with h | ⟨_, _, _, h⟩ <;> rw [h] <;> exact blockOnly_refl s

/-- The registers of the block as an accepted EV_ACK leaves them (R311). -/
def acknowledged (s : State) : State :=
  { s with seqLen := if s.outPending = 2 then 0 else s.seqLen, outPending := 0 }

theorem acknowledged_hostOnly {s t : State} (h : hostOnly s t) : hostOnly (acknowledged s) (acknowledged t) := by
  simp_all [hostOnly, sameBlock, sameInputs, acknowledged]

theorem ackEvent_hostOnly (s : State) : hostOnly s (ackEvent s) ∨ hostOnly (acknowledged s) (ackEvent s) := by
  rcases ackEvent_cases s with h | ⟨_, _, _, h⟩ <;> rw [h]
  · exact .inl (hostOnly_refl s)
  · exact .inr (hostOnly_refl (acknowledged s))

/-- An operation of the block or its port writes no host field and no input; the two resets end a Detok call (R44). -/
theorem effect_of_blockSide {i : Instr} {s t : State} (h : Effect i s t) (hi : hostSide i = false) :
    sameInputs s t ∧ sameHost s t ∧ (i ≠ .resetAssert → i ≠ .resetDeassert → sameCall s t) := by
  have of_blockOnly {u : State} (hb : BlockOnly s u) :
      sameInputs s u ∧ sameHost s u ∧ (i ≠ .resetAssert → i ≠ .resetDeassert → sameCall s u) :=
    ⟨hb.1, hb.2.1, fun _ _ => hb.2.2⟩
  have hs := blockOnly_refl s
  cases h with
  | same | allocated | raisedBy => exact of_blockOnly hs
  | reset h => exact ⟨hs.1, hs.2.1, fun hne => absurd h hne⟩
  | deassert h => exact ⟨hs.1, hs.2.1, fun _ hne => absurd h hne⟩
  | threshold reg v => exact of_blockOnly (writeThreshold_blockOnly reg v s)
  | ack => exact of_blockOnly (ackEvent_blockOnly s)
  | bit _ _ _ hb => exact of_blockOnly (bitEffect_blockOnly hb)
  | sample s1 _ _ _ _ h1 _ _ _ hb =>
    have hbit := bitEffect_blockOnly hb
    rcases h1 with ⟨rfl, _⟩ | ⟨rfl, _⟩ <;> exact of_blockOnly hbit
  | host _ hhost | handled _ hhost => exact absurd (hi.symm.trans hhost) nofun

/-- An operation of the host writes no register of the block but through the EV_ACK it ends in (R231, R232). -/
theorem effect_of_hostSide {i : Instr} {s t : State} (h : Effect i s t) (hi : hostSide i = true) :
    hostOnly s t ∨ hostOnly (acknowledged s) t := by
  cases h with
  | same => exact .inl (hostOnly_refl s)
  | host _ _ ho => exact .inl ho
  | handled u _ _ ho =>
    rcases ackEvent_hostOnly u with hkept | hacked
    · exact .inl (hostOnly_trans ho hkept)
    · exact .inr (hostOnly_trans (acknowledged_hostOnly ho) hacked)
  | reset h | deassert h | threshold _ _ h | ack h | allocated h | raisedBy _ h => subst h; cases hi
  | bit _ hblock => exact absurd (hi.symm.trans hblock) nofun
  | sample _ _ _ h => rcases h with rfl | ⟨_, rfl⟩ <;> cases hi

/-- Settles O31: the inversion of `exec`, once for each side. -/
theorem agentsKeepToTheirState : Obligations.AgentsKeepToTheirState := by
  intro i s t e
  have h := exec_effect e
  cases hi : hostSide i with
  | false =>
    obtain ⟨hinputs, hkeep⟩ := effect_of_blockSide h hi
    exact ⟨hinputs, fun _ => hkeep, nofun⟩
  | true =>
    rcases effect_of_hostSide h hi with ⟨hblock, hinputs⟩ | ⟨hblock, hinputs⟩
    · exact ⟨hinputs, nofun, fun _ => .inl hblock⟩
    · exact ⟨hinputs, nofun, fun _ => .inr hblock⟩

end Machine
end Sys2Proof

/-! PROOF. The encoding (R90, R93, R97, R104, R110, R112, R114; log 2): the decoder and the encoder are inverse to each
other on the bytes they read. -/

namespace Sys2Proof

/-! ## Operand bytes (log 2) -/

@[simp] theorem pair16_bytes (v : BitVec 16) : pair16 (v.extractLsb' 0 8) (v.extractLsb' 8 8) = v :=
  (BitVec.extractLsb'_append_extractLsb'_eq_extractLsb' rfl).trans BitVec.extractLsb'_eq_self

@[simp] theorem bytes16_pair16 (lo hi : Byte) : bytes16 (pair16 lo hi) = [lo, hi] := by
  rw [bytes16, pair16, BitVec.extractLsb'_append_eq_right, BitVec.extractLsb'_append_eq_left]

@[simp] theorem quad32_bytes (v : Word) :
    quad32 (v.extractLsb' 0 8) (v.extractLsb' 8 8) (v.extractLsb' 16 8) (v.extractLsb' 24 8) = v := by
  have hlo : v.extractLsb' 8 8 ++ v.extractLsb' 0 8 = v.extractLsb' 0 16 :=
    BitVec.extractLsb'_append_extractLsb'_eq_extractLsb' rfl
  have hhi : v.extractLsb' 24 8 ++ v.extractLsb' 16 8 = v.extractLsb' 16 16 :=
    BitVec.extractLsb'_append_extractLsb'_eq_extractLsb' rfl
  rw [quad32, hlo, hhi]
  exact (BitVec.extractLsb'_append_extractLsb'_eq_extractLsb' rfl).trans BitVec.extractLsb'_eq_self

theorem bytes32_append (hi lo : BitVec 16) : bytes32 (hi ++ lo) = bytes16 lo ++ bytes16 hi := by
  have hlow {start : Nat} (h : start + 8 ≤ 16) : (hi ++ lo).extractLsb' start 8 = lo.extractLsb' start 8 :=
    BitVec.extractLsb'_append_eq_of_add_le h
  have hhigh {start : Nat} (h : 16 ≤ start) : (hi ++ lo).extractLsb' start 8 = hi.extractLsb' (start - 16) 8 :=
    BitVec.extractLsb'_append_eq_of_le h
  simp [bytes32, bytes16, hlow, hhigh]

@[simp] theorem bytes32_quad32 (b0 b1 b2 b3 : Byte) : bytes32 (quad32 b0 b1 b2 b3) = [b0, b1, b2, b3] := by
  have h : bytes32 (quad32 b0 b1 b2 b3) = bytes16 (pair16 b0 b1) ++ bytes16 (pair16 b2 b3) := bytes32_append _ _
  rw [h, bytes16_pair16, bytes16_pair16]
  rfl

/-- A code set in a byte's low bits is the byte, where the byte's high bits are 0 (log 2). -/
theorem setWidth_setWidth_of_lt {n : Nat} {b : Byte} (h : b.toNat < 2 ^ n) : (b.setWidth n).setWidth 8 = b := by
  refine BitVec.eq_of_toNat_eq ?_
  rw [BitVec.toNat_setWidth, BitVec.toNat_setWidth, Nat.mod_eq_of_lt h, Nat.mod_eq_of_lt b.isLt]

/-! ## Encoding then decoding (R90, R114) -/

@[simp] theorem withCode_setWidth (mk : Code → Instr) (c : Code) (rest : List Byte) :
    withCode mk (c.setWidth 8 :: rest) = checkOperands (mk c) := by
  have hlt : (c.setWidth 8).toNat < 16 := by rw [BitVec.toNat_setWidth_of_le (by decide)]; exact c.isLt
  rw [withCode, if_pos hlt, BitVec.setWidth_setWidth_of_le _ (by decide), BitVec.setWidth_eq]

theorem withPair_bytes16 (mk : BitVec 16 → Instr) (v : BitVec 16) : withPair mk (bytes16 v) = .ok (mk v) := by
  rw [bytes16, withPair, pair16_bytes]

theorem withConfig_bytes (reg : BitVec 2) (v : Word) :
    withConfig (reg.setWidth 8 :: bytes32 v) = .ok (.cfgWrite reg v) := by
  have hlt : (reg.setWidth 8).toNat < 4 := by rw [BitVec.toNat_setWidth_of_le (by decide)]; exact reg.isLt
  rw [bytes32, withConfig, if_pos hlt, quad32_bytes, BitVec.setWidth_setWidth_of_le _ (by decide), BitVec.setWidth_eq]

theorem checkOperands_of_wf {i : Instr} (h : WellFormed i = true) : checkOperands i = .ok i := if_pos h

theorem withBit_byteOfBit (mk : Bool → Instr) (c : Bool) (rest : List Byte) :
    withBit mk (byteOfBit c :: rest) = .ok (mk c) := by
  cases c <;> rfl

theorem decodeType_of_invalid {b : Byte} (h : isInvalidType b = true) : decodeType b = .ok (.typeInvalid b) := by
  simp only [isInvalidType, Bool.and_eq_true, bne_iff_ne] at h
  obtain ⟨⟨hname, hdata⟩, heof⟩ := h
  rw [decodeType, if_neg hname, if_neg hdata, if_neg heof]

theorem isPrint_iff (b : Byte) : isPrint b = true ↔ 0x20 ≤ b.toNat ∧ b.toNat ≤ 0x7E := by simp [isPrint]

theorem isOpTok_iff (b : Byte) : isOpTok b = true ↔ 0x80 ≤ b.toNat ∧ b.toNat < 0xE0 := by
  simp only [isOpTok, Bool.and_eq_true, decide_eq_true_eq]
  rfl

/-- The classes of a content byte, in the order of the table, are disjoint (R104). -/
theorem decodeDetok_of_isPrint {b : Byte} (h : isPrint b = true) : decodeDetok b = .ok (.dtPrint b) := by
  have h0 : b ≠ 0 := by rintro rfl; cases h
  rw [decodeDetok, if_neg h0, if_pos h]

theorem decodeDetok_of_isOpTok {b : Byte} (h : isOpTok b = true) : decodeDetok b = .ok (.dtOptok b) := by
  have h0 : b ≠ 0 := by rintro rfl; cases h
  have hp : ¬ isPrint b = true := by
    obtain ⟨hlow, _⟩ := (isOpTok_iff b).mp h
    rw [isPrint_iff]
    omega
  rw [decodeDetok, if_neg h0, if_neg hp, if_pos h]

theorem decodeDetok_of_isEsc {b : Byte} (h : isEsc b = true) : decodeDetok b = .ok (.dtEsc b) := by
  simp only [isEsc, Bool.and_eq_true, bne_iff_ne, Bool.not_eq_true', ← Bool.not_eq_true] at h
  obtain ⟨⟨⟨h0, hp⟩, ho⟩, hf⟩ := h
  rw [decodeDetok, if_neg h0, if_neg hp, if_neg ho, if_neg hf]

theorem decodeFault_of_reserved {c : Code} (h : 9 ≤ c.toNat) : decodeFault (c.setWidth 8) = .ok (.fltReserved c) := by
  have hlt := c.isLt
  have hn : (c.setWidth 8).toNat = c.toNat := BitVec.toNat_setWidth_of_le (by decide)
  unfold decodeFault
  split
  case h_10 => rw [if_pos (by omega), BitVec.setWidth_setWidth_of_le _ (by decide), BitVec.setWidth_eq]
  all_goals omega

/-- Settles O51: row by row; the rows whose operands their class restricts go by the class, the others by evaluation. -/
theorem decodeInvertsEncode : Obligations.DecodeInvertsEncode := by
  intro i h
  cases i with
  | samplePush x | emitLine x => exact withPair_bytes16 _ x
  | cfgWrite reg v => exact withConfig_bytes reg v
  | crossing prev cur => simpa [decode, encode, decodeIn, decodePair, bytes16] using checkOperands_of_wf h
  | bitstep c => exact withBit_byteOfBit .bitstep c []
  | typeInvalid b => exact decodeType_of_invalid h
  | fltReserved c => exact decodeFault_of_reserved (of_decide_eq_true h)
  | hostFault code => exact (withCode_setWidth .hostFault code []).trans (checkOperands_of_wf h)
  | blockFault code => exact (withCode_setWidth .blockFault code []).trans (checkOperands_of_wf h)
  | dtPrint b => exact decodeDetok_of_isPrint h
  | dtOptok b => exact decodeDetok_of_isOpTok h
  | dtEsc b => exact decodeDetok_of_isEsc h
  | _ => rfl

/-! ## Decoding then encoding (R90, R113) -/

/-- The bytes present the operation in the format: they are its encoding's, and more that are not read (log 2). -/
def Presents (fmt : Fmt) (bytes : List Byte) (i : Instr) : Prop :=
  fmt = (encode i).fmt ∧ ∃ rest, bytes = (encode i).bytes ++ rest

/-- A row without operands is presented by its code byte. -/
theorem presents_of_code {i : Instr} {fmt : Fmt} {c : Byte} {ops : List Byte} (h : encode i = ⟨fmt, [c]⟩) :
    Presents fmt (c :: ops) i := by
  rw [Presents, h]
  exact ⟨rfl, ops, rfl⟩

/-! What each operand reader read: the bytes, and the operation made of them. -/

theorem withByte_reads {mk : Byte → Instr} {l : List Byte} {i : Instr} (h : withByte mk l = .ok i) :
    ∃ v rest, l = v :: rest ∧ i = mk v := by
  cases l with
  | nil => cases h
  | cons v rest => cases h; exact ⟨v, rest, rfl, rfl⟩

theorem withCode_reads {mk : Code → Instr} {l : List Byte} {i : Instr} (h : withCode mk l = .ok i) :
    ∃ (c : Code) (rest : List Byte), l = c.setWidth 8 :: rest ∧ i = mk c := by
  cases l with
  | nil => cases h
  | cons v rest =>
    simp only [withCode] at h
    split at h
    case isTrue hlt => exact ⟨v.setWidth 4, rest, by rw [setWidth_setWidth_of_lt hlt], (checkOperands_ok h).1⟩
    case isFalse => cases h

theorem withBit_reads {mk : Bool → Instr} {l : List Byte} {i : Instr} (h : withBit mk l = .ok i) :
    ∃ c rest, l = byteOfBit c :: rest ∧ i = mk c := by
  cases l with
  | nil => cases h
  | cons v rest =>
    simp only [withBit] at h
    split_ifs at h with h0 h1
    · cases h; exact ⟨false, rest, by rw [h0]; rfl, rfl⟩
    · cases h; exact ⟨true, rest, by rw [h1]; rfl, rfl⟩

theorem withPair_reads {mk : BitVec 16 → Instr} {l : List Byte} {i : Instr} (h : withPair mk l = .ok i) :
    ∃ v rest, l = bytes16 v ++ rest ∧ i = mk v := by
  match l, h with
  | lo :: hi :: rest, h => cases h; exact ⟨pair16 lo hi, rest, by rw [bytes16_pair16]; rfl, rfl⟩

theorem withConfig_reads {l : List Byte} {i : Instr} (h : withConfig l = .ok i) :
    ∃ (reg : BitVec 2) (v : Word) (rest : List Byte),
      l = reg.setWidth 8 :: bytes32 v ++ rest ∧ i = .cfgWrite reg v := by
  match l, h with
  | r :: b0 :: b1 :: b2 :: b3 :: rest, h =>
    simp only [withConfig] at h
    split at h
    case isTrue hlt =>
      cases h
      exact ⟨_, _, rest, by rw [setWidth_setWidth_of_lt hlt, bytes32_quad32]; rfl, rfl⟩
    case isFalse => cases h

/-! Each format's decoder, the code given as a number. -/

theorem decodePort_presents {n : Nat} {l : List Byte} {i : Instr} (h : decodePort n l = .ok i) :
    Presents .portOp (BitVec.ofNat 8 n :: l) i := by
  unfold decodePort at h
  split at h
  case h_2 => obtain ⟨v, rest, rfl, rfl⟩ := withPair_reads h; exact ⟨rfl, rest, rfl⟩
  case h_4 => obtain ⟨reg, v, rest, rfl, rfl⟩ := withConfig_reads h; exact ⟨rfl, rest, rfl⟩
  case h_9 => cases h
  all_goals cases h; exact presents_of_code rfl

theorem decodePair_presents {b : Byte} {l : List Byte} {i : Instr} (h : decodePair b l = .ok i) :
    Presents .samplePair (b :: l) i := by
  match l, h with
  | hi :: lo' :: hi' :: rest, h =>
    obtain ⟨rfl, _⟩ := checkOperands_ok h
    exact ⟨rfl, rest, by simp [encode]⟩

theorem decodeClassified_presents {n : Nat} {l : List Byte} {i : Instr} (h : decodeClassified n = .ok i) :
    Presents .classifiedBit (BitVec.ofNat 8 n :: l) i := by
  unfold decodeClassified at h
  split at h
  case h_5 => cases h
  all_goals cases h; exact presents_of_code rfl

theorem decodeInternal_presents {n : Nat} {l : List Byte} {i : Instr} (h : decodeInternal n l = .ok i) :
    Presents .internal (BitVec.ofNat 8 n :: l) i := by
  unfold decodeInternal at h
  split at h
  case h_1 => cases h; exact presents_of_code rfl
  case h_2 => obtain ⟨c, rest, rfl, rfl⟩ := withBit_reads h; exact ⟨rfl, rest, rfl⟩
  case h_3 => obtain ⟨c, rest, rfl, rfl⟩ := withCode_reads h; exact ⟨rfl, rest, rfl⟩
  case h_4 => cases h

theorem decodeState_presents {n : Nat} {l : List Byte} {i : Instr} (h : decodeState n l = .ok i) :
    Presents .fsmState (BitVec.ofNat 8 n :: l) i := by
  unfold decodeState at h
  split at h
  case h_1 | h_13 | h_14 | h_15 | h_16 => cases h; exact presents_of_code rfl
  case h_17 => cases h
  all_goals obtain ⟨v, rest, rfl, rfl⟩ := withByte_reads h; exact ⟨rfl, rest, rfl⟩

theorem decodeType_presents {b : Byte} {l : List Byte} {i : Instr} (h : decodeType b = .ok i) :
    Presents .typeByte (b :: l) i := by
  unfold decodeType at h
  split_ifs at h
  all_goals cases h; subst_vars; exact presents_of_code rfl

theorem decodeEvent_presents {n : Nat} {l : List Byte} {i : Instr} (h : decodeEvent n = .ok i) :
    Presents .outPending (BitVec.ofNat 8 n :: l) i := by
  unfold decodeEvent at h
  split at h
  case h_5 => cases h
  all_goals cases h; exact presents_of_code rfl

theorem decodeFault_presents {b : Byte} {l : List Byte} {i : Instr} (h : decodeFault b = .ok i) :
    Presents .faultCode (b :: l) i := by
  have hb : BitVec.ofNat 8 b.toNat = b := by simp
  unfold decodeFault at h
  split at h
  case h_10 =>
    split_ifs at h with hlt
    cases h
    exact presents_of_code (by rw [encode, setWidth_setWidth_of_lt hlt])
  all_goals
    rename_i hcode
    rw [hcode] at hb
    subst hb
    cases h
    exact presents_of_code rfl

theorem decodeRoutine_presents {n : Nat} {l : List Byte} {i : Instr} (h : decodeRoutine n l = .ok i) :
    Presents .hostRoutine (BitVec.ofNat 8 n :: l) i := by
  unfold decodeRoutine at h
  split at h
  case h_3 => obtain ⟨v, rest, rfl, rfl⟩ := withByte_reads h; exact ⟨rfl, rest, rfl⟩
  case h_7 => obtain ⟨v, rest, rfl, rfl⟩ := withPair_reads h; exact ⟨rfl, rest, rfl⟩
  case h_10 => obtain ⟨c, rest, rfl, rfl⟩ := withCode_reads h; exact ⟨rfl, rest, rfl⟩
  case h_11 => cases h
  all_goals cases h; exact presents_of_code rfl

theorem decodeDetok_presents {b : Byte} {l : List Byte} {i : Instr} (h : decodeDetok b = .ok i) :
    Presents .detokByte (b :: l) i := by
  unfold decodeDetok at h
  split_ifs at h
  all_goals cases h; subst_vars; exact presents_of_code rfl

/-- Whatever the format, the bytes that decode to an operation present it. -/
theorem decodeIn_presents {fmt : Fmt} {c : Byte} {ops : List Byte} {i : Instr} (h : decodeIn fmt c ops = .ok i) :
    Presents fmt (c :: ops) i := by
  have hc : BitVec.ofNat 8 c.toNat = c := by simp
  cases fmt with
  | portOp => exact hc ▸ decodePort_presents h
  | samplePair => exact decodePair_presents h
  | classifiedBit => exact hc ▸ decodeClassified_presents h
  | internal => exact hc ▸ decodeInternal_presents h
  | fsmState => exact hc ▸ decodeState_presents h
  | typeByte => exact decodeType_presents h
  | outPending => exact hc ▸ decodeEvent_presents h
  | faultCode => exact decodeFault_presents h
  | hostRoutine => exact hc ▸ decodeRoutine_presents h
  | detokByte => exact decodeDetok_presents h
  | syncByte | lenNameByte | lenEofByte =>
    simp only [decodeIn] at h
    split_ifs at h with hcode
    cases h
    exact presents_of_code (by rw [hcode]; rfl)
  | lenDataByte | cksumByte | leadByte | detokFn => cases h; exact presents_of_code rfl

/-- Settles O52: well-formedness by `decode_wf`, the bytes by the format's decoder. -/
theorem encodeInvertsDecode : Obligations.EncodeInvertsDecode := by
  intro it i h
  refine ⟨decode_wf h, ?_⟩
  obtain ⟨fmt, bytes⟩ := it
  cases bytes with
  | nil => cases h
  | cons c ops => exact decodeIn_presents h

/-- Settles O53: each word is evaluated. -/
theorem specWordsDecode : Obligations.SpecWordsDecode := by
  refine ⟨rfl, rfl, rfl, rfl, rfl, rfl, rfl, ?_⟩
  decide

end Sys2Proof

/-! PROOF. Operations that change nothing or that the model refuses (R114, R152; log 2, 4, 11, 14), and the step that
takes a queued unit (R71; log 1). -/

namespace Sys2Proof
namespace Machine

/-! ## A queued unit (log 1, log 2) -/

theorem fetch_of_queue {s : State} {it : Item} {rest : List Item} (h : s.queue = it :: rest) :
    fetch s = .queued (decode it) := by
  rw [fetch, h]

theorem popQueue_of_queue {s : State} {it : Item} {rest : List Item} (h : s.queue = it :: rest) :
    popQueue s = { s with queue := rest } := by
  rw [popQueue, h, List.tail_cons]

theorem step_of_queued_ok {s : State} {it : Item} {rest : List Item} {i : Instr} (h : s.queue = it :: rest)
    (hd : decode it = .ok i) : step s = exec i { s with queue := rest } := by
  rw [step, fetch_of_queue h, hd, ← popQueue_of_queue h]

theorem step_of_queued_error {s : State} {it : Item} {rest : List Item} {why : Reject} (h : s.queue = it :: rest)
    (hd : decode it = .error why) : step s = .refused (.undecodable why) := by
  rw [step, fetch_of_queue h, hd]

/-- Settles O54. -/
theorem stepRunsDecodedUnit : Obligations.StepRunsDecodedUnit := fun _ _ _ _ => step_of_queued_ok

/-! ## Refusals (log 2, 11, 14) -/

theorem detect_of_last_index (p : Params) (b : Bool) (x : Sample) {s : State} (h : s.idx = BitVec.allOnes 32) :
    detect p b x s = .refused .launchPremise :=
  if_pos h

/-- An accepted sample at the last index is refused, with or without a record to allocate (D3, log 11). -/
theorem samplePush_of_last_index (p : Params) (x : Sample) {s : State} (ha : Accepting s)
    (h : s.idx = BitVec.allOnes 32) : samplePush p x s = .refused .launchPremise := by
  rw [samplePush, if_pos ((accepts_iff s).mpr ha)]
  refine detect_of_last_index p s.prevNN x ?_
  split
  · exact h
  · exact (allocate_idx s).trans h

/-- Settles O27. -/
theorem modelRefusesOutsideSpec : Obligations.ModelRefusesOutsideSpec := fun _ =>
  ⟨rfl, rfl, fun _ => rfl, fun x ha h => samplePush_of_last_index Config.params x ha h,
    fun _ _ _ => step_of_queued_error⟩

/-! ## Rows that are not met (log 4) -/

section
variable {s : State}

/-- A handler, or a tape byte's row, where its byte-complete event cannot occur: `atState` unfolded. -/
theorem ite_atByte_of_not_atByte {c : Code} (r : Res) (h : ¬ AtByte c s) :
    (if atByte c s then r else .next s) = .next s :=
  if_neg (mt (atByte_iff c s).mp h)

theorem ite_live_of_not_live (r : Res) (h : ¬ Live s) : (if live s then r else .next s) = .next s :=
  if_neg (mt (live_iff s).mp h)

theorem lengthOf_of_not_met {bt : BitVec 2} (v : Byte) (h : ¬ (AtByte 2 s ∧ s.blk.btype = bt)) :
    lengthOf bt v s = .next s := by
  by_cases hb : s.blk.btype = bt
  · rw [lengthOf, if_pos hb]
    exact ite_atByte_of_not_atByte _ fun ha => h ⟨ha, hb⟩
  · exact if_neg hb

theorem live_and_state_iff (c : Code) : (live s && s.blk.state == c) = true ↔ Live s ∧ s.blk.state = c := by
  rw [Bool.and_eq_true, live_iff, beq_iff_eq]

theorem illegalBit_of_not_met {c : Code} (h : ¬ (Live s ∧ s.blk.state = c)) : illegalBit c s = s :=
  if_neg (mt (live_and_state_iff c).mp h)

theorem allocate_of_not_met (h : ¬ (Accepting s ∧ s.active = false)) : execAllocate s = .next s := by
  refine congrArg _ (if_neg ?_)
  rwa [Bool.and_eq_true, accepts_iff, Bool.not_eq_true']

theorem blockRaise_of_not_live (c : Code) (h : ¬ Live s) : blockRaise c s = .next s :=
  congrArg _ (if_neg (mt (live_iff s).mp h))

theorem hostRaise_of_not_busy (c : Code) (h : ¬ (s.outPending ≠ 0 ∧ s.hfault = false)) : hostRaise c s = .next s :=
  congrArg _ (if_neg (mt (hostBusy_iff s).mp h))

theorem whileHandling_of_not_handling (f : State → State) (h : ¬ Handling s) : whileHandling f s = .next s :=
  congrArg _ (if_neg (mt (handling_iff s).mp h))

/-- The rows ON_NAME and EV_NAME run the same routine under the same condition. -/
theorem execOnName_of_not_met (h : ¬ (s.outPending = 1 ∧ s.hfault = false)) : execOnName s = .next s := by
  refine if_neg ?_
  simpa [evName] using h

theorem emitUnit_of_not_met (t : Text) (h : s.hfault = true ∨ s.dtPfx = true) : emitUnit t s = s := by
  refine if_neg ?_
  rcases h with h | h <;> simp [h]

theorem execDtFnpfx_of_not_met (h : s.hfault = true ∨ s.dtPfx = true) : execDtFnpfx s = .next s := by
  refine congrArg _ (if_neg ?_)
  rcases h with h | h <;> simp [h]

theorem execDtFn_of_not_met (m : Byte) (h : s.hfault = true ∨ s.dtPfx = false) : execDtFn m s = .next s := by
  refine congrArg _ (if_neg ?_)
  rcases h with h | h <;> simp [h]

theorem handlerRow_of_not_atByte {r : Code × (Byte → Instr)} (hr : r ∈ handlerRows) (v : Byte)
    (h : ¬ AtByte r.1 s) : exec (r.2 v) s = .next s := by
  simp only [handlerRows, List.mem_cons, List.not_mem_nil, or_false] at hr
  rcases hr with rfl | rfl | rfl | rfl | rfl | rfl | rfl | rfl | rfl | rfl | rfl <;>
    exact ite_atByte_of_not_atByte _ h

theorem clsNone_keeps_state (s : State) : exec .clsNone s = .next s := by
  have h : exec .clsNone s = if live s then .next s else .next s := rfl
  rw [h, ite_self]

end

/-- Settles O5: the rows without effect anywhere, and then each guard of log 4 where it does not hold. -/
theorem operationsWithoutEffect : Obligations.OperationsWithoutEffect := by
  intro s
  refine ⟨rfl, rfl, rfl, clsNone_keeps_state s, rfl, rfl, fun r hr v h => handlerRow_of_not_atByte hr v h,
    ?types, ?lenName, ?lenData, ?lenEof, ?cksum, ?lead, ?sync, ?ill13, ?ill14, ?ill15, ?alloc, ?live, ?name,
    ?evProgram, ?hostRaise, ?units, ?dtFn, ?routines⟩
  case types => exact fun h b => ⟨ite_atByte_of_not_atByte _ h, ite_atByte_of_not_atByte _ h, ite_atByte_of_not_atByte _ h,
    ite_atByte_of_not_atByte _ h⟩
  case lenName => exact lengthOf_of_not_met _
  case lenData => exact fun h l => lengthOf_of_not_met l h
  case lenEof => exact lengthOf_of_not_met _
  case cksum => exact fun h _ => ite_atByte_of_not_atByte _ h
  case lead => exact fun h _ => ⟨ite_atByte_of_not_atByte _ h, ite_atByte_of_not_atByte _ h⟩
  case sync =>
    intro h
    have hn := mt (live_and_state_iff stNeedSyncByte).mp h
    exact ⟨congrArg _ (if_neg hn), congrArg _ (if_neg hn)⟩
  case ill13 | ill14 | ill15 => exact fun h => congrArg _ (illegalBit_of_not_met h)
  case alloc => exact allocate_of_not_met
  case live =>
    exact fun h _ c _ _ => ⟨ite_live_of_not_live _ h, ite_live_of_not_live _ h, ite_live_of_not_live _ h,
      ite_live_of_not_live _ h, blockRaise_of_not_live c h, blockRaise_of_not_live _ h, blockRaise_of_not_live _ h,
      blockRaise_of_not_live _ h⟩
  case name => exact fun h => ⟨execOnName_of_not_met h, execOnName_of_not_met h⟩
  case evProgram => exact whileHandling_of_not_handling _
  case hostRaise =>
    exact fun h c => ⟨hostRaise_of_not_busy c h, hostRaise_of_not_busy _ h, hostRaise_of_not_busy _ h,
      hostRaise_of_not_busy _ h, hostRaise_of_not_busy _ h, hostRaise_of_not_busy _ h⟩
  case units =>
    exact fun h _ => ⟨congrArg _ (emitUnit_of_not_met _ h), congrArg _ (emitUnit_of_not_met _ h),
      congrArg _ (emitUnit_of_not_met _ h), execDtFnpfx_of_not_met h, congrArg _ (emitUnit_of_not_met _ h)⟩
  case dtFn => exact fun h m => execDtFn_of_not_met m h
  case routines =>
    exact fun h _ _ => ⟨whileHandling_of_not_handling _ h, whileHandling_of_not_handling _ h,
      whileHandling_of_not_handling _ h, whileHandling_of_not_handling _ h, whileHandling_of_not_handling _ h,
      whileHandling_of_not_handling _ h, whileHandling_of_not_handling _ h, whileHandling_of_not_handling _ h⟩

end Machine
end Sys2Proof

/-! PROOF. The stimulus items (R115 to R117): the crossings of a stimulus of cycles, found by the source's scan
(R131 to R133). -/

namespace Sys2Proof
namespace Machine

/-! ## Crossings of a sequence (R131, R133) -/

theorem fallsAt_succ_iff (xs : List Sample) (j : Nat) :
    fallsAt xs (j + 1) = true ↔
      ∃ a b, xs[j]? = some a ∧ xs[j + 1]? = some b ∧ nonNeg a = true ∧ nonNeg b = false := by
  simp only [fallsAt]
  split
  case h_1 a b ha hb => simp [ha, hb]
  case h_2 hne =>
    refine iff_of_false nofun ?_
    rintro ⟨a, b, ha, hb, _⟩
    exact hne a b ha hb

/-- Whether there is a crossing at an index depends on the samples up to it. -/
theorem fallsAt_append_left {xs : List Sample} (ys : List Sample) {i : Nat} (h : i < xs.length) :
    fallsAt (xs ++ ys) i = fallsAt xs i := by
  cases i with
  | zero => rfl
  | succ j => rw [Bool.eq_iff_iff, fallsAt_succ_iff, fallsAt_succ_iff, List.getElem?_append_left h,
      List.getElem?_append_left (by omega)]

/-- A crossing inside a part of a sequence is one of that part. -/
theorem fallsAt_append_right (xs ys : List Sample) (k : Nat) :
    fallsAt (xs ++ ys) (xs.length + (k + 1)) = fallsAt ys (k + 1) := by
  have h (m : Nat) : (xs ++ ys)[xs.length + m]? = ys[m]? := by
    rw [List.getElem?_append_right (Nat.le_add_right _ _), Nat.add_sub_cancel_left]
  rw [Bool.eq_iff_iff, ← Nat.add_assoc, fallsAt_succ_iff, fallsAt_succ_iff, h, Nat.add_assoc, h]

/-- No crossing lies strictly between two indices. -/
def NoFallBetween (xs : List Sample) (lo hi : Nat) : Prop := ∀ i, lo < i → i < hi → fallsAt xs i = false

theorem nextFall_eq_some {xs : List Sample} {cur i : Nat} (hcur : cur < i) (hi : i < xs.length)
    (hfall : fallsAt xs i = true) (hnone : NoFallBetween xs cur i) : nextFall xs cur = some i := by
  refine List.find?_range_eq_some.mpr ⟨by simp [hcur, hfall], List.mem_range.mpr hi, fun j hj => ?_⟩
  by_cases hc : cur < j
  · simp [hnone j hc hj]
  · simp [hc]

theorem nextFall_eq_none {xs : List Sample} {cur : Nat} (h : xs.length ≤ cur + 1) : nextFall xs cur = none := by
  refine List.find?_eq_none.mpr fun i hi => ?_
  have hlt := List.mem_range.mp hi
  simp [show ¬ cur < i by omega]

theorem scanFrom_of_some {xs : List Sample} {cur i : Nat} (n : Nat) (h : nextFall xs cur = some i) :
    scanFrom xs (n + 1) cur = (i, i - cur) :: scanFrom xs n i := by
  rw [scanFrom, h]

theorem scanFrom_of_none {xs : List Sample} {cur : Nat} (n : Nat) (h : nextFall xs cur = none) :
    scanFrom xs n cur = [] := by
  cases n with
  | zero => rfl
  | succ n => rw [scanFrom, h]

/-! ## Cycles (R115) -/

@[simp] theorem length_cycleSamples (n : Nat) : (cycleSamples n).length = n := by
  simp [cycleSamples]
  omega

/-- The samples of a cycle: below zero in its first half, above it in the rest. -/
theorem nonNeg_of_cycleSamples {n k : Nat} {x : Sample} (h : (cycleSamples n)[k]? = some x) :
    nonNeg x = true ↔ n / 2 ≤ k := by
  rw [cycleSamples, List.getElem?_append, List.length_replicate] at h
  split at h
  case isTrue hk =>
    obtain rfl := List.eq_of_mem_replicate (List.mem_of_getElem? h)
    exact iff_of_false (by decide) (by omega)
  case isFalse hk =>
    obtain rfl := List.eq_of_mem_replicate (List.mem_of_getElem? h)
    exact iff_of_true (by decide) (by omega)

theorem fallsAt_cycleSamples (n k : Nat) : fallsAt (cycleSamples n) k = false := by
  cases k with
  | zero => rfl
  | succ k =>
    rw [← Bool.not_eq_true, fallsAt_succ_iff]
    rintro ⟨a, b, ha, hb, hna, hnb⟩
    have hlow := (nonNeg_of_cycleSamples ha).mp hna
    have hhigh := mt (nonNeg_of_cycleSamples hb).mpr (by simp [hnb])
    omega

/-- A cycle of at least two samples begins below zero. -/
theorem cycleSamples_eq_cons {n : Nat} (h : 2 ≤ n) : ∃ tl, cycleSamples n = -amplitude :: tl := by
  obtain ⟨m, hm⟩ := Nat.exists_eq_add_one_of_ne_zero (show n / 2 ≠ 0 by omega)
  rw [cycleSamples, hm]
  exact ⟨_, rfl⟩

/-- A cycle of at least two samples ends above zero. -/
theorem getLast?_cycleSamples {n : Nat} (h : 2 ≤ n) : (cycleSamples n).getLast? = some amplitude := by
  rw [cycleSamples, List.getLast?_append_of_ne_nil _ (by simp; omega), List.getLast?_replicate, if_neg (by omega)]

/-- Where a part ends above zero and the next sample is below it, the next crossing is at the end of that part. -/
theorem nextFall_of_boundary {pre : List Sample} {cur : Nat} (rest : List Sample) (hcur : cur < pre.length)
    (hlast : pre.getLast? = some amplitude) (hnone : NoFallBetween pre cur pre.length) :
    nextFall (pre ++ -amplitude :: rest) cur = some pre.length := by
  refine nextFall_eq_some hcur (by simp) ?_ fun i hlo hhi => ?_
  · obtain ⟨j, hj⟩ := Nat.exists_eq_add_one_of_ne_zero (Nat.ne_zero_of_lt hcur)
    rw [List.getLast?_eq_getElem?, hj, Nat.add_sub_cancel] at hlast
    rw [hj, fallsAt_succ_iff]
    refine ⟨amplitude, -amplitude, ?_, ?_, by decide, by decide⟩
    · rw [List.getElem?_append_left (by omega), hlast]
    · rw [← hj]
      simp
  · rw [fallsAt_append_left _ hhi]
    exact hnone i hlo hhi

theorem noFallBetween_append_cycleSamples (pre : List Sample) (n : Nat) :
    NoFallBetween (pre ++ cycleSamples n) pre.length (pre ++ cycleSamples n).length := by
  intro i hlo _
  obtain ⟨k, rfl⟩ := Nat.exists_eq_add_of_lt hlo
  rw [Nat.add_assoc, fallsAt_append_right, fallsAt_cycleSamples]

theorem length_le_length_flatMap_cycleSamples {cs : List Nat} (h : ∀ n ∈ cs, 2 ≤ n) :
    cs.length ≤ (cs.flatMap cycleSamples).length := by
  induction cs with
  | nil => simp
  | cons n cs ih =>
    have hn := h n List.mem_cons_self
    have hcs := ih fun m hm => h m (List.mem_cons_of_mem n hm)
    rw [List.flatMap_cons, List.length_append, length_cycleSamples, List.length_cons]
    omega

/-! ## The scan of a stimulus (R117) -/

/-- Past a part `pre` that ends above zero and holds no crossing after the last one, at `cur`, the scan finds one
crossing at each end of a cycle: the first at the end of `pre`, the others a cycle's length apart. -/
theorem scanFrom_cycles (cs : List Nat) (hcs : ∀ n ∈ cs, 2 ≤ n) (pre : List Sample) (cur fuel : Nat)
    (hcur : cur < pre.length) (hlast : pre.getLast? = some amplitude) (hnone : NoFallBetween pre cur pre.length)
    (hfuel : cs.length < fuel) :
    (scanFrom (pre ++ (cs.flatMap cycleSamples ++ [-amplitude])) fuel cur).map Prod.snd = (pre.length - cur) :: cs := by
  induction cs generalizing pre cur fuel with
  | nil =>
    obtain ⟨fuel, rfl⟩ := Nat.exists_eq_add_one_of_ne_zero (Nat.ne_zero_of_lt hfuel)
    have hfirst := nextFall_of_boundary [] hcur hlast hnone
    have hend : nextFall (pre ++ [-amplitude]) pre.length = none := nextFall_eq_none (by simp)
    rw [List.flatMap_nil, List.nil_append, scanFrom_of_some fuel hfirst, scanFrom_of_none fuel hend]
    rfl
  | cons n cs ih =>
    obtain ⟨fuel, rfl⟩ := Nat.exists_eq_add_one_of_ne_zero (Nat.ne_zero_of_lt hfuel)
    have hn := hcs n List.mem_cons_self
    have hfirst : nextFall (pre ++ (cycleSamples n ++ (cs.flatMap cycleSamples ++ [-amplitude]))) cur =
        some pre.length := by
      obtain ⟨tl, htl⟩ := cycleSamples_eq_cons hn
      rw [htl]
      exact nextFall_of_boundary _ hcur hlast hnone
    have hrest := ih (fun m hm => hcs m (List.mem_cons_of_mem n hm)) (pre ++ cycleSamples n) pre.length fuel
      (by rw [List.length_append, length_cycleSamples]; omega)
      (by rw [List.getLast?_append, getLast?_cycleSamples hn]; rfl)
      (noFallBetween_append_cycleSamples pre n) (Nat.lt_of_succ_lt_succ hfuel)
    rw [List.append_assoc, List.length_append, length_cycleSamples, Nat.add_sub_cancel_left] at hrest
    rw [List.flatMap_cons, List.append_assoc, scanFrom_of_some fuel hfirst, List.map_cons, hrest]

/-- The samples of an item that is no single sample are those of its cycles (R115). -/
theorem expand_eq_flatMap_cycles {i : Stim} (hstart : i ≠ .start) (hfinish : i ≠ .finish) (hone : ∀ v, i ≠ .one v) :
    i.expand = i.cycles.flatMap cycleSamples := by
  cases i with
  | start => exact absurd rfl hstart
  | finish => exact absurd rfl hfinish
  | one v => exact absurd rfl (hone v)
  | _ => rfl

/-- Settles O50: the scan of the items' cycles after the one sample of `START`, which ends above zero. -/
theorem stimulusHasItsCycles : Obligations.StimulusHasItsCycles := by
  intro items hitems
  have hcs : ∀ n ∈ items.flatMap Stim.cycles, 2 ≤ n := by
    intro n hn
    obtain ⟨i, hi, hni⟩ := List.mem_flatMap.mp hn
    obtain ⟨_, _, _, hcycles⟩ := hitems i hi
    exact hcycles n hni
  have hexpand : items.flatMap Stim.expand = (items.flatMap Stim.cycles).flatMap cycleSamples := by
    rw [List.flatMap_assoc]
    refine List.flatMap_congr fun i hi => ?_
    obtain ⟨hstart, hfinish, hone, _⟩ := hitems i hi
    exact expand_eq_flatMap_cycles hstart hfinish hone
  rw [hexpand, List.append_assoc]
  refine scanFrom_cycles _ hcs [amplitude] 0 _ Nat.zero_lt_one rfl
    (fun i hlo hhi => absurd hhi (Nat.not_lt.mpr hlo)) ?_
  have hlen := length_le_length_flatMap_cycleSamples hcs
  have hstart : Stim.start.expand.length = 1 := rfl
  rw [List.length_append, List.length_append, hstart]
  omega

end Machine
end Sys2Proof

/-! PROOF. Whole frames (R95 to R100): the bits of a frame, fed to a record searching for sync, run the state machine
from the sync byte to Done (R172 to R189). -/

namespace Sys2Proof
namespace Machine

/-! ## Runs of bits (R68, R172) -/

/-- The bits of the bytes, fed one after another, lead from one state to another. -/
def Feeds (s : State) (bs : List Byte) (t : State) : Prop := execAll (feed bs) s = .next t

theorem execAll_cons_of_next {i : Instr} {s t : State} (is : List Instr) (h : exec i s = .next t) :
    execAll (i :: is) s = execAll is t := by
  rw [execAll, h]

theorem execAll_singleton (i : Instr) (s : State) : execAll [i] s = exec i s := by
  rw [execAll]
  cases exec i s <;> rfl

theorem execAll_append_of_next {is : List Instr} {s t : State} (js : List Instr) (h : execAll is s = .next t) :
    execAll (is ++ js) s = execAll js t := by
  induction is generalizing s with
  | nil => cases h; rfl
  | cons i is ih =>
    rw [execAll] at h
    split at h
    case h_1 u hu => rw [List.cons_append, execAll_cons_of_next _ hu, ih h]
    case h_2 | h_3 => cases h

theorem feed_append (xs ys : List Byte) : feed (xs ++ ys) = feed xs ++ feed ys := by
  simp [feed, bitsOfBytes]

theorem Feeds.append {s t u : State} {xs ys : List Byte} (h : Feeds s xs t) (h' : Feeds t ys u) :
    Feeds s (xs ++ ys) u := by
  rw [Feeds, feed_append, execAll_append_of_next _ h]
  exact h'

theorem exec_bitstep_of_live {s : State} (c : Bool) (h : Live s) : exec (.bitstep c) s = bitStep Config.params c s :=
  if_pos ((live_iff s).mpr h)

/-! ## A byte in an aligned state (R172, R174) -/

section
variable {s : State} (hl : Live s) (hlow : 1 ≤ s.blk.state.toNat) (hhigh : s.blk.state.toNat ≤ 11)
include hl hlow hhigh

/-- A bit below the eighth is inserted and counted. -/
theorem exec_bitstep_of_lt (c : Bool) (h : s.blk.bitcnt.toNat < 7) :
    exec (.bitstep c) s = .next
      (onBlock (fun b => { b with shift := insertBit b.shift c, bitcnt := b.bitcnt + 1 }) s) := by
  rw [exec_bitstep_of_live c hl, bitStep_aligned hlow (by omega)]
  refine if_neg fun h8 => ?_
  change s.blk.bitcnt + 1 = 8 at h8
  bv_omega

/-- The eighth bit completes the byte. -/
theorem exec_bitstep_of_eq (c : Bool) (h : s.blk.bitcnt.toNat = 7) :
    exec (.bitstep c) s = byteHandler Config.params (insertBit s.blk.shift c)
      (onBlock (fun b => { b with shift := 0, bitcnt := 0 }) s) := by
  rw [exec_bitstep_of_live c hl, bitStep_aligned hlow (by omega)]
  refine if_pos ?_
  change s.blk.bitcnt + 1 = 8
  bv_omega

end

/-- The bits that are missing to the eighth complete the byte they leave in the shift register. -/
theorem execAll_bits {s : State} (hl : Live s) (hlow : 1 ≤ s.blk.state.toNat) (hhigh : s.blk.state.toNat ≤ 11)
    (cs : List Bool) (hne : cs ≠ []) (hcount : s.blk.bitcnt.toNat + cs.length = 8) :
    execAll (cs.map Instr.bitstep) s = byteHandler Config.params (cs.foldl insertBit s.blk.shift)
      (onBlock (fun b => { b with shift := 0, bitcnt := 0 }) s) := by
  induction cs generalizing s with
  | nil => exact absurd rfl hne
  | cons c cs ih =>
    by_cases hcs : cs = []
    · subst hcs
      exact (execAll_singleton _ s).trans (exec_bitstep_of_eq hl hlow hhigh c (by simpa using hcount))
    · have hpos := List.length_pos_iff.mpr hcs
      rw [List.length_cons] at hcount
      rw [List.map_cons, execAll_cons_of_next _ (exec_bitstep_of_lt hl hlow hhigh c (by omega))]
      refine ih hl hlow hhigh hcs ?_
      change (s.blk.bitcnt + 1).toNat + cs.length = 8
      bv_omega

/-- The bits of a byte, fed to an aligned state on a fresh byte, run the state's handler on the byte (R174). -/
theorem execAll_feed_byte {s : State} {c : Code} (h : AtByte c s) (hlow : 1 ≤ c.toNat) (hhigh : c.toNat ≤ 11)
    (v : Byte) : execAll (feed [v]) s = byteHandler Config.params v s := by
  obtain ⟨hl, rfl, hcnt, hshift⟩ := h
  have hfresh : onBlock (fun b => { b with shift := 0, bitcnt := 0 }) s = s := by
    rw [← hshift, ← hcnt]
    rfl
  have hfeed : feed [v] = (bitsOf v).map Instr.bitstep := by simp [feed, bitsOfBytes]
  rw [hfeed, execAll_bits hl hlow hhigh (bitsOf v) nofun (by rw [hcnt]; rfl), insertBits_byte, hfresh]

/-! ## The sync byte (R175) -/

/-- The record as the sync byte leaves it. -/
def synced (b : Block) : Block := { b with shift := 0, bitcnt := 0, state := 1 }

/-- A bit that does not complete the sync byte only moves the window. -/
theorem exec_bitstep_of_no_sync {s : State} (hl : Live s) (h0 : s.blk.state = 0) (c : Bool)
    (hne : insertBit s.blk.shift c ≠ Config.syncByte) :
    exec (.bitstep c) s = .next (onBlock (fun b => { b with shift := insertBit b.shift c }) s) := by
  rw [exec_bitstep_of_live c hl, bitStep_sync h0]
  exact congrArg (fun b => Host.Outcome.next { s with blk := b }) (if_neg hne)

theorem exec_bitstep_of_sync {s : State} (hl : Live s) (h0 : s.blk.state = 0) (c : Bool)
    (heq : insertBit s.blk.shift c = Config.syncByte) :
    exec (.bitstep c) s = .next (onBlock synced s) := by
  rw [exec_bitstep_of_live c hl, bitStep_sync h0]
  exact congrArg (fun b => Host.Outcome.next { s with blk := b }) (if_pos heq)

/-- Bits at none of which the window is the sync byte only move the window. -/
theorem execAll_bits_of_no_sync {s : State} (hl : Live s) (h0 : s.blk.state = 0) (cs : List Bool)
    (hne : ∀ k < cs.length, (cs.take (k + 1)).foldl insertBit s.blk.shift ≠ Config.syncByte) :
    execAll (cs.map Instr.bitstep) s = .next (onBlock (fun b => { b with shift := cs.foldl insertBit b.shift }) s) := by
  induction cs generalizing s with
  | nil => rfl
  | cons c cs ih =>
    have hfirst := hne 0 (Nat.succ_pos _)
    rw [List.map_cons, execAll_cons_of_next _ (exec_bitstep_of_no_sync hl h0 c hfirst)]
    exact ih hl h0 fun k hk => hne (k + 1) (Nat.succ_lt_succ hk)

/-- The sync byte, met with an empty window, is found at its eighth bit and not before. -/
theorem feeds_sync {s : State} (hl : Live s) (h0 : s.blk.state = 0) (hshift : s.blk.shift = 0) :
    Feeds s [0x3C] (onBlock synced s) := by
  have hbits : feed [0x3C] = [false, false, true, true, true, true, false].map Instr.bitstep ++ [.bitstep false] := by
    decide
  have hseven : execAll ([false, false, true, true, true, true, false].map Instr.bitstep) s =
      .next { s with blk := { s.blk with shift := 0x78 } } := by
    rw [execAll_bits_of_no_sync hl h0 _ (by rw [hshift]; decide), onBlock, hshift]
    rfl
  rw [Feeds, hbits, execAll_append_of_next _ hseven, execAll_singleton]
  have hlast : insertBit 0x78 false = Config.syncByte := by decide
  exact exec_bitstep_of_sync (s := { s with blk := { s.blk with shift := 0x78 } }) hl h0 false hlast

/-! ## The checksum's sum (R100) -/

theorem foldl_add_eq (bs : List Byte) (a : Byte) : bs.foldl (· + ·) a = a + sumBytes bs := by
  induction bs generalizing a with
  | nil => exact (BitVec.add_zero a).symm
  | cons b bs ih => rw [sumBytes, List.foldl_cons, List.foldl_cons, ih, ih (0 + b), zero_add, BitVec.add_assoc]

@[simp] theorem sumBytes_nil : sumBytes [] = 0 := rfl

@[simp] theorem sumBytes_cons (b : Byte) (bs : List Byte) : sumBytes (b :: bs) = b + sumBytes bs := by
  rw [sumBytes, List.foldl_cons, foldl_add_eq, zero_add]

theorem sumBytes_append (xs ys : List Byte) : sumBytes (xs ++ ys) = sumBytes xs + sumBytes ys := by
  rw [sumBytes, List.foldl_append, foldl_add_eq]
  rfl

/-! ## One byte in each state (R177 to R187) -/

section
variable {s : State}

theorem onBlock_onBlock (f g : Block → Block) (s : State) :
    onBlock f (onBlock g s) = onBlock (fun b => f (g b)) s := rfl

/-- A change of the record that is no bit leaves it on a fresh byte. -/
theorem atByte_onBlock {f : Block → Block} {c c' : Code} (h : AtByte c s) (hstate : (f s.blk).state = c')
    (hcnt : (f s.blk).bitcnt = s.blk.bitcnt) (hshift : (f s.blk).shift = s.blk.shift) : AtByte c' (onBlock f s) := by
  obtain ⟨hl, _, hcnt0, hshift0⟩ := h
  exact ⟨hl, hstate, hcnt.trans hcnt0, hshift.trans hshift0⟩

/-- A byte fed is a byte handled (R173). -/
theorem feeds_of_byteHandler {c : Code} {t : State} (h : AtByte c s) (v : Byte) (hlow : 1 ≤ c.toNat)
    (hhigh : c.toNat ≤ 11) (ht : s.blk.state = c → byteHandler Config.params v s = .next t) : Feeds s [v] t :=
  have ⟨_, hstate, _, _⟩ := h
  (execAll_feed_byte h hlow hhigh v).trans (ht hstate)

theorem feeds_blockType (h : AtByte 1 s) (v : Byte) : Feeds s [v] (onBlock (needBlockType v) s) :=
  feeds_of_byteHandler h v (by decide) (by decide) fun hs => by rw [byteHandler, hs]; rfl

theorem feeds_length (h : AtByte 2 s) (v : Byte) : Feeds s [v] (onBlock (needLength v) s) :=
  feeds_of_byteHandler h v (by decide) (by decide) fun hs => by rw [byteHandler, hs]; rfl

theorem feeds_nameByte (h : AtByte 3 s) (v : Byte) (hn : s.blk.nidx.toNat < Config.nameChars) :
    Feeds s [v] { s with blk := storeName v s.blk hn } :=
  feeds_of_byteHandler h v (by decide) (by decide) fun hs => by rw [byteHandler, hs]; exact dif_pos hn

theorem feeds_fileType (h : AtByte 4 s) (v : Byte) : Feeds s [v] (onBlock (needFileType v) s) :=
  feeds_of_byteHandler h v (by decide) (by decide) fun hs => by rw [byteHandler, hs]; rfl

theorem feeds_asciiFlag (h : AtByte 5 s) (v : Byte) : Feeds s [v] (onBlock (needAsciiFlag v) s) :=
  feeds_of_byteHandler h v (by decide) (by decide) fun hs => by rw [byteHandler, hs]; rfl

theorem feeds_gapFlag (h : AtByte 6 s) (v : Byte) : Feeds s [v] (onBlock (needGapFlag v) s) :=
  feeds_of_byteHandler h v (by decide) (by decide) fun hs => by rw [byteHandler, hs]; rfl

theorem feeds_startByte (h : AtByte 7 s) (v : Byte) : Feeds s [v] (onBlock (needStartAddr v) s) :=
  feeds_of_byteHandler h v (by decide) (by decide) fun hs => by rw [byteHandler, hs]; rfl

theorem feeds_loadByte (h : AtByte 8 s) (v : Byte) : Feeds s [v] (onBlock (needLoadAddr v) s) :=
  feeds_of_byteHandler h v (by decide) (by decide) fun hs => by rw [byteHandler, hs]; rfl

theorem feeds_dataByte (h : AtByte 9 s) (v : Byte) (hd : s.blk.didx.toNat < s.blk.len.toNat) :
    Feeds s [v] (onBlock (storeData v) s) :=
  feeds_of_byteHandler h v (by decide) (by decide) fun hs => by rw [byteHandler, hs]; exact if_pos hd

/-- The checksum byte that equals the running sum (R186). -/
theorem feeds_cksum (h : AtByte 10 s) :
    Feeds s [s.blk.ck] (onBlock (fun b => { b with ckrx := b.ck, state := 11 }) s) :=
  feeds_of_byteHandler h _ (by decide) (by decide) fun hs => by
    rw [byteHandler, hs]
    exact congrArg Host.Outcome.next (if_pos rfl)

/-- The trailing byte, where the store has room (R187, R189). -/
theorem feeds_lead (h : AtByte 11 s) (v : Byte) (hroom : s.seqLen < Config.params.seqCap) :
    Feeds s [v] (commitBlock (onBlock (fun b => { b with state := 12 }) s)) :=
  feeds_of_byteHandler h v (by decide) (by decide) fun hs => by
    rw [byteHandler, hs]
    exact congrArg Host.Outcome.next (if_neg (Nat.not_le.mpr hroom))

/-! ## The parts of a frame (R95) -/

/-- The payload up to a written entry, as a list: the entries before it, and the byte (R185). -/
theorem memTake_memWrite {m : Memory} (h : m.Pairwise fun a b => a.1 < b.1) (k : Nat) (v : Byte) :
    memTake (memWrite m k v) (k + 1) = memTake m k ++ [v] := by
  have hlast : memRead (memWrite m k v) k = v := by rw [memRead_memWrite h, if_pos rfl]
  rw [memTake, List.range_succ, List.map_append, List.map_singleton, hlast, memTake]
  refine congrArg (· ++ [v]) (List.map_congr_left fun j hj => ?_)
  rw [memRead_memWrite h, if_neg (Nat.ne_of_lt (List.mem_range.mp hj))]

theorem storeData_of_more {b : Block} (v : Byte) (h : b.didx + 1 ≠ b.len) : storeData v b =
    { b with payload := memWrite b.payload b.didx.toNat v, didx := b.didx + 1, ck := b.ck + v } := by
  rw [storeData, if_neg h]

theorem storeData_of_last {b : Block} (v : Byte) (h : b.didx + 1 = b.len) : storeData v b =
    { b with payload := memWrite b.payload b.didx.toNat v, didx := b.len, ck := b.ck + v, state := 10 } := by
  rw [storeData, if_pos h, h]
  rfl

theorem storeName_of_more {b : Block} (v : Byte) (hn : b.nidx.toNat < Config.nameChars) (h : b.nidx.toNat ≠ 7) :
    storeName v b hn = { b with name := b.name.set b.nidx.toNat v hn, nidx := b.nidx + 1, ck := b.ck + v } := by
  rw [storeName, if_neg (mt (nidx_last_iff b.nidx).mp h)]

theorem storeName_of_last {b : Block} (v : Byte) (hn : b.nidx.toNat < Config.nameChars) (h : b.nidx.toNat = 7) :
    storeName v b hn = { b with name := b.name.set b.nidx.toNat v hn, nidx := 8, ck := b.ck + v, state := 4 } := by
  have h8 := (nidx_last_iff b.nidx).mpr h
  rw [storeName, if_pos h8, h8]
  rfl

/-- The name up to a written byte, as a list: the bytes before it, and the byte (R179). -/
theorem toList_set_take {n : Nat} (name : Vector Byte n) {k : Nat} (h : k < n) (v : Byte) :
    (name.set k v h).toList.take (k + 1) = name.toList.take k ++ [v] := by
  rw [Vector.toList_set, List.take_add_one, List.take_set_of_le (Nat.le_refl k),
    List.getElem?_set_self (by rwa [Vector.length_toList])]
  rfl

theorem pushByte_pushByte (a : BitVec 16) (hi lo : Byte) : pushByte (pushByte a hi) lo = bigEndian hi lo := by
  have hlow : (pushByte a hi).extractLsb' 0 8 = hi := BitVec.extractLsb'_append_eq_right
  rw [pushByte, hlow]

theorem bigEndian_toNat (hi lo : Byte) : (bigEndian hi lo).toNat = 256 * hi.toNat + lo.toNat := by
  rw [bigEndian, BitVec.toNat_append, ← Nat.shiftLeft_add_eq_or_of_lt lo.isLt, Nat.shiftLeft_eq, Nat.mul_comm]

theorem needStartAddr_of_first {b : Block} (v : Byte) (h : b.aidx = 0) : needStartAddr v b =
    { b with startAddr := pushByte b.startAddr v, ck := b.ck + v, aidx := 1 } := by
  rw [needStartAddr, h]
  rfl

theorem needStartAddr_of_second {b : Block} (v : Byte) (h : b.aidx = 1) : needStartAddr v b =
    { b with startAddr := pushByte b.startAddr v, ck := b.ck + v, aidx := 0, state := 8 } := by
  rw [needStartAddr, h]
  rfl

theorem needLoadAddr_of_first {b : Block} (v : Byte) (h : b.aidx = 0) : needLoadAddr v b =
    { b with loadAddr := pushByte b.loadAddr v, ck := b.ck + v, len := b.len - 1, aidx := 1 } := by
  rw [needLoadAddr, h]
  rfl

theorem needLoadAddr_of_second {b : Block} (v : Byte) (h : b.aidx = 1) : needLoadAddr v b =
    { b with loadAddr := pushByte b.loadAddr v, ck := b.ck + v, len := b.len - 1, aidx := 2, state := 10 } := by
  rw [needLoadAddr, h]
  rfl

/-! The record as each part of a Name frame leaves it. -/

/-- After the eight name bytes, the name stored as `nm` (R179). -/
def nameStored (ns : List Byte) (nm : Vector Byte Config.nameChars) (b : Block) : Block :=
  { b with name := nm, nidx := 8, ck := b.ck + sumBytes ns, state := 4 }

/-- After the three flag bytes (R180 to R182). -/
def flagsStored (ft as gp : Byte) (b : Block) : Block :=
  { b with ftype := ft, ascii := as, gap := gp, ck := b.ck + sumBytes [ft, as, gp], aidx := 0, state := 7 }

/-- After the two bytes of `START_ADDR` (R183). -/
def startStored (hi lo : Byte) (b : Block) : Block :=
  { b with startAddr := bigEndian hi lo, ck := b.ck + sumBytes [hi, lo], aidx := 0, state := 8 }

/-- After the two bytes of `LOAD_ADDR`, each with the length quirk (R184). -/
def loadStored (hi lo : Byte) (b : Block) : Block :=
  { b with
    loadAddr := bigEndian hi lo, ck := b.ck + sumBytes [hi, lo], len := b.len - 1 - 1, aidx := 2, state := 10 }

/-- The end of every frame: the right checksum byte, and any byte after it. -/
theorem feeds_trailer (h : AtByte 10 s) (lead : Byte) (hroom : s.seqLen < Config.params.seqCap) :
    Feeds s [s.blk.ck, lead] (commitBlock (onBlock (fun b => { b with ckrx := b.ck, state := 12 }) s)) := by
  have hck := feeds_cksum h
  obtain ⟨hl, _, hcnt, hshift⟩ := h
  have hlead := feeds_lead (s := onBlock (fun b => { b with ckrx := b.ck, state := 11 }) s)
    ⟨hl, rfl, hcnt, hshift⟩ lead hroom
  exact hck.append hlead

/-- The start of every frame: the sync byte, a type byte the spec has, and the length byte (R96 to R98). -/
theorem feeds_header (hl : Live s) (h0 : s.blk.state = 0) (hshift : s.blk.shift = 0) (t n : Byte) {bt : BitVec 2}
    (ht : ∀ b, needBlockType t b = acceptType bt t b) :
    Feeds s [0x3C, t, n] (onBlock (fun b => needLength n (acceptType bt t (synced b))) s) := by
  have htype := feeds_blockType (s := onBlock synced s) ⟨hl, rfl, rfl, rfl⟩ t
  have hlen := feeds_length (s := onBlock (fun b => acceptType bt t (synced b)) s) ⟨hl, rfl, rfl, rfl⟩ n
  rw [show needBlockType t = acceptType bt t from funext ht] at htype
  exact (feeds_sync hl h0 hshift).append (htype.append hlen)

/-- The Name bytes still missing, stored from `NIDX` on (R179). -/
theorem feeds_name (h : AtByte 3 s) (ns : List Byte) (hne : ns ≠ []) (hcount : s.blk.nidx.toNat + ns.length = 8) :
    ∃ nm : Vector Byte Config.nameChars, nm.toList = s.blk.name.toList.take s.blk.nidx.toNat ++ ns ∧
      Feeds s ns (onBlock (nameStored ns nm) s) := by
  induction ns generalizing s with
  | nil => exact absurd rfl hne
  | cons n ns ih =>
    rw [List.length_cons] at hcount
    have hn : s.blk.nidx.toNat < Config.nameChars := by rw [nameChars_eq]; omega
    have hfirst := feeds_nameByte h n hn
    have htake := toList_set_take s.blk.name hn n
    obtain ⟨hl, hstate, hcnt, hshift⟩ := h
    by_cases hns : ns = []
    · subst hns
      have hlast : s.blk.nidx.toNat = 7 := by simpa using hcount
      refine ⟨s.blk.name.set s.blk.nidx.toNat n hn, ?_, ?_⟩
      · rw [← htake, List.take_of_length_le (by simp; omega)]
      · rw [storeName_of_last n hn hlast] at hfirst
        simpa [onBlock, nameStored] using hfirst
    · have hmore : s.blk.nidx.toNat ≠ 7 := by
        have hpos := List.length_pos_iff.mpr hns
        omega
      have hsucc : (s.blk.nidx + 1).toNat = s.blk.nidx.toNat + 1 := by bv_omega
      rw [storeName_of_more n hn hmore] at hfirst
      have hnext : AtByte 3 { s with blk := { s.blk with
          name := s.blk.name.set s.blk.nidx.toNat n hn, nidx := s.blk.nidx + 1, ck := s.blk.ck + n } } :=
        ⟨hl, hstate, hcnt, hshift⟩
      have hleft : (s.blk.nidx + 1).toNat + ns.length = 8 := by omega
      obtain ⟨nm, hnm, hrest⟩ := ih hnext hns hleft
      refine ⟨nm, ?_, ?_⟩
      · rw [hnm, hsucc, htake, List.append_assoc, List.singleton_append]
      · simp only [onBlock, nameStored, sumBytes_cons, ← BitVec.add_assoc]
        exact hfirst.append hrest

/-- The payload bytes still missing, stored from `DIDX` on (R185). -/
theorem feeds_data (h : AtByte 9 s) (bs : List Byte) (hne : bs ≠ [])
    (hcount : s.blk.didx.toNat + bs.length = s.blk.len.toNat) (hwf : Memory.wf s.blk.payload) :
    ∃ m : Memory, memTake m s.blk.len.toNat = memTake s.blk.payload s.blk.didx.toNat ++ bs ∧
      Feeds s bs (onBlock (fun b => { b with
        payload := m, didx := b.len, ck := b.ck + sumBytes bs, state := 10 }) s) := by
  induction bs generalizing s with
  | nil => exact absurd rfl hne
  | cons v bs ih =>
    rw [List.length_cons] at hcount
    have hlen := s.blk.len.isLt
    have hfirst := feeds_dataByte h v (by omega)
    have htake := memTake_memWrite hwf.1 s.blk.didx.toNat v
    have hsucc : (s.blk.didx + 1).toNat = s.blk.didx.toNat + 1 := by bv_omega
    obtain ⟨hl, hstate, hcnt, hshift⟩ := h
    by_cases hbs : bs = []
    · subst hbs
      have hlast : s.blk.didx + 1 = s.blk.len := BitVec.eq_of_toNat_eq (hsucc.trans hcount)
      refine ⟨memWrite s.blk.payload s.blk.didx.toNat v, by rw [← hlast, hsucc, htake], ?_⟩
      rw [onBlock, storeData_of_last v hlast] at hfirst
      simpa [onBlock] using hfirst
    · have hmore : s.blk.didx + 1 ≠ s.blk.len := by
        have hpos := List.length_pos_iff.mpr hbs
        intro heq
        rw [← heq, hsucc] at hcount
        omega
      rw [onBlock, storeData_of_more v hmore] at hfirst
      have hnext : AtByte 9 { s with blk := { s.blk with
          payload := memWrite s.blk.payload s.blk.didx.toNat v, didx := s.blk.didx + 1, ck := s.blk.ck + v } } :=
        ⟨hl, hstate, hcnt, hshift⟩
      have hleft : (s.blk.didx + 1).toNat + bs.length = s.blk.len.toNat := by omega
      obtain ⟨m, hm, hrest⟩ := ih hnext hbs hleft (memWrite_wf hwf (by rw [payloadSize]; omega))
      refine ⟨m, ?_, ?_⟩
      · rw [hm, hsucc, htake, List.append_assoc, List.singleton_append]
      · simp only [onBlock, sumBytes_cons, ← BitVec.add_assoc]
        exact hfirst.append hrest

/-- The three flag bytes of a Name block (R180 to R182). -/
theorem feeds_flags (h : AtByte 4 s) (ft as gp : Byte) :
    Feeds s [ft, as, gp] (onBlock (flagsStored ft as gp) s) := by
  have hft := feeds_fileType h ft
  obtain ⟨hl, _, hcnt, hshift⟩ := h
  have has := feeds_asciiFlag (s := onBlock (needFileType ft) s) ⟨hl, rfl, hcnt, hshift⟩ as
  have hgp := feeds_gapFlag (s := onBlock (needAsciiFlag as) (onBlock (needFileType ft) s))
    ⟨hl, rfl, hcnt, hshift⟩ gp
  simp only [onBlock, flagsStored, sumBytes_cons, sumBytes_nil, add_zero, ← BitVec.add_assoc]
  exact hft.append (has.append hgp)

/-- The two bytes of `START_ADDR`, high byte first (R183). -/
theorem feeds_startAddr (h : AtByte 7 s) (ha : s.blk.aidx = 0) (hi lo : Byte) :
    Feeds s [hi, lo] (onBlock (startStored hi lo) s) := by
  have hfirst := feeds_startByte h hi
  rw [onBlock, needStartAddr_of_first hi ha] at hfirst
  obtain ⟨hl, hstate, hcnt, hshift⟩ := h
  have hnext : AtByte 7 { s with blk := { s.blk with
      startAddr := pushByte s.blk.startAddr hi, ck := s.blk.ck + hi, aidx := 1 } } := ⟨hl, hstate, hcnt, hshift⟩
  have hsecond := feeds_startByte hnext lo
  rw [onBlock, needStartAddr_of_second lo rfl, pushByte_pushByte] at hsecond
  simp only [onBlock, startStored, sumBytes_cons, sumBytes_nil, add_zero, ← BitVec.add_assoc]
  exact hfirst.append hsecond

/-- The two bytes of `LOAD_ADDR`, high byte first, each with the length quirk (R184). -/
theorem feeds_loadAddr (h : AtByte 8 s) (ha : s.blk.aidx = 0) (hi lo : Byte) :
    Feeds s [hi, lo] (onBlock (loadStored hi lo) s) := by
  have hfirst := feeds_loadByte h hi
  rw [onBlock, needLoadAddr_of_first hi ha] at hfirst
  obtain ⟨hl, hstate, hcnt, hshift⟩ := h
  have hnext : AtByte 8 { s with blk := { s.blk with
      loadAddr := pushByte s.blk.loadAddr hi, ck := s.blk.ck + hi, len := s.blk.len - 1, aidx := 1 } } :=
    ⟨hl, hstate, hcnt, hshift⟩
  have hsecond := feeds_loadByte hnext lo
  rw [onBlock, needLoadAddr_of_second lo rfl, pushByte_pushByte] at hsecond
  simp only [onBlock, loadStored, sumBytes_cons, sumBytes_nil, add_zero, ← BitVec.add_assoc]
  exact hfirst.append hsecond

end

/-! ## The three frames (R95 to R100) -/

/-- A length the frame can carry is the length byte it carries (R98). -/
theorem ofNat_length_toNat {bs : List Byte} (h : bs.length ≤ 255) : (BitVec.ofNat 8 bs.length).toNat = bs.length := by
  rw [BitVec.toNat_ofNat]
  exact Nat.mod_eq_of_lt (Nat.lt_succ_of_le h)

/-- The record of a Data frame as its header leaves it: the payload is next, or the checksum where there is none. -/
def dataHeader (n : Byte) (b : Block) : Block :=
  { synced b with
    btype := 2, len := n, ck := 1 + n, payload := memClear b.payload n.toNat, didx := 0
    state := if n = 0 then 10 else 9 }

/-- The record of a Data frame as its payload leaves it, the payload stored as `m`. -/
def dataReceived (bs : List Byte) (m : Memory) (b : Block) : Block :=
  { synced b with
    btype := 2, len := BitVec.ofNat 8 bs.length, ck := frameChecksum 0x01 bs, payload := m
    didx := BitVec.ofNat 8 bs.length, state := 10 }

/-- The record of a Name frame as its header leaves it. -/
def nameHeader (b : Block) : Block := { synced b with btype := 1, len := 15, ck := 0 + 15, nidx := 0, state := 3 }

/-- The record of a Name frame as its last field leaves it, the name stored as `nm`. -/
def nameReceived (ns : List Byte) (nm : Vector Byte Config.nameChars) (ft as gp sh sl lh ll : Byte)
    (b : Block) : Block :=
  loadStored lh ll (startStored sh sl (flagsStored ft as gp (nameStored ns nm (nameHeader b))))

/-- The running sum of a Name frame is the frame's checksum (R100). -/
theorem nameReceived_ck (ns : List Byte) (hns : ns.length = 8) (nm : Vector Byte Config.nameChars)
    (ft as gp sh sl lh ll : Byte) (b : Block) : (nameReceived ns nm ft as gp sh sl lh ll b).ck =
      frameChecksum 0x00 (ns ++ ([ft, as, gp] ++ ([sh, sl] ++ [lh, ll]))) := by
  have hlen : (ns ++ ([ft, as, gp] ++ ([sh, sl] ++ [lh, ll]))).length = 15 := by simp [hns]
  rw [frameChecksum, hlen, sumBytes_append, sumBytes_append, sumBytes_append, ← BitVec.add_assoc, ← BitVec.add_assoc,
    ← BitVec.add_assoc]
  rfl

/-- The length quirk takes one for each byte of `LOAD_ADDR`: 13 of 15 are left (R184). -/
theorem nameReceived_len (ns : List Byte) (nm : Vector Byte Config.nameChars) (ft as gp sh sl lh ll : Byte)
    (b : Block) : (nameReceived ns nm ft as gp sh sl lh ll b).len = 13 := by
  change (15 - 1 - 1 : Byte) = 13
  decide

/-- The record of an EndOfFile frame as its header leaves it. -/
def eofReceived (b : Block) : Block := { synced b with btype := 3, len := 0, ck := 0xFF, state := 10 }

section
variable {s : State} (hl : Live s) (h0 : s.blk.state = 0) (hshift : s.blk.shift = 0)
include hl h0 hshift

theorem feeds_dataHeader (n : Byte) : Feeds s [0x3C, 0x01, n] (onBlock (dataHeader n) s) :=
  feeds_header hl h0 hshift 0x01 n (bt := btData) fun _ => rfl

theorem feeds_nameHeader : Feeds s [0x3C, 0x00, 15] (onBlock nameHeader s) :=
  feeds_header hl h0 hshift 0x00 15 (bt := btName) fun _ => rfl

theorem feeds_eofReceived : Feeds s [0x3C, 0xFF, 0x00] (onBlock eofReceived s) :=
  feeds_header hl h0 hshift 0xFF 0x00 (bt := btEof) fun _ => rfl

/-- A Data frame up to its payload's end: the record holds the payload and the frame's sum (R100, R185). -/
theorem feeds_dataReceived (hwf : Memory.wf s.blk.payload) (bs : List Byte) (hlen : bs.length ≤ 255) :
    ∃ m : Memory, memTake m bs.length = bs ∧
      Feeds s ([0x3C, 0x01, BitVec.ofNat 8 bs.length] ++ bs) (onBlock (dataReceived bs m) s) := by
  have hn := ofNat_length_toNat hlen
  have hheader := feeds_dataHeader hl h0 hshift (BitVec.ofNat 8 bs.length)
  by_cases hbs : bs = []
  · subst hbs
    exact ⟨memClear s.blk.payload 0, rfl, hheader⟩
  · have hne : BitVec.ofNat 8 bs.length ≠ 0 := by
      intro heq
      rw [heq] at hn
      exact hbs (List.length_eq_zero_iff.mp hn.symm)
    have hat : AtByte 9 (onBlock (dataHeader (BitVec.ofNat 8 bs.length)) s) := ⟨hl, if_neg hne, rfl, rfl⟩
    obtain ⟨m, hm, hdata⟩ := feeds_data hat bs hbs ((Nat.zero_add _).trans hn.symm) (memClear_wf _ hwf)
    refine ⟨m, ?_, hheader.append hdata⟩
    rw [← hn]
    exact hm

/-- A Name frame up to its last field (R179 to R184). -/
theorem feeds_nameReceived (ns : List Byte) (hns : ns.length = 8) (ft as gp sh sl lh ll : Byte) :
    ∃ nm : Vector Byte Config.nameChars, nm.toList = ns ∧
      Feeds s ([0x3C, 0x00, 15] ++ (ns ++ ([ft, as, gp] ++ ([sh, sl] ++ [lh, ll]))))
        (onBlock (nameReceived ns nm ft as gp sh sl lh ll) s) := by
  have hheader := feeds_nameHeader hl h0 hshift
  have hne : ns ≠ [] := by rintro rfl; cases hns
  have atName : AtByte 3 (onBlock nameHeader s) := ⟨hl, rfl, rfl, rfl⟩
  obtain ⟨nm, hnm, hname⟩ := feeds_name atName ns hne ((Nat.zero_add _).trans hns)
  have atFlags := atByte_onBlock (f := nameStored ns nm) atName rfl rfl rfl
  have atStart := atByte_onBlock (f := flagsStored ft as gp) atFlags rfl rfl rfl
  have atLoad := atByte_onBlock (f := startStored sh sl) atStart rfl rfl rfl
  have hflags := feeds_flags atFlags ft as gp
  have hstart := feeds_startAddr atStart rfl sh sl
  have hload := feeds_loadAddr atLoad rfl lh ll
  have hall := hheader.append (hname.append (hflags.append (hstart.append hload)))
  simp only [onBlock_onBlock] at hall
  exact ⟨nm, hnm, hall⟩

end

/-- Settles O46: the frame up to its payload's end, and its end. -/
theorem dataFrameIsAppended : Obligations.DataFrameIsAppended := by
  intro s bs lead hlen hl h0 hshift hwf hroom
  obtain ⟨m, hm, hreceived⟩ := feeds_dataReceived hl h0 hshift hwf bs hlen
  have htrailer := feeds_trailer (s := onBlock (dataReceived bs m) s) ⟨hl, rfl, rfl, rfl⟩ lead hroom
  exact ⟨_, _, hreceived.append htrailer, rfl, rfl, rfl, ofNat_length_toNat hlen, hm, rfl, rfl⟩

/-- Settles O48: each frame up to its last byte before the checksum, and its end. -/
theorem nameAndEofFramesRaiseEvents : Obligations.NameAndEofFramesRaiseEvents := by
  intro s n0 n1 n2 n3 n4 n5 n6 n7 ft as gp sh sl lh ll lead hl h0 hshift hroom
  constructor
  · obtain ⟨nm, hnm, hreceived⟩ :=
      feeds_nameReceived hl h0 hshift [n0, n1, n2, n3, n4, n5, n6, n7] rfl ft as gp sh sl lh ll
    have htrailer := feeds_trailer
      (s := onBlock (nameReceived [n0, n1, n2, n3, n4, n5, n6, n7] nm ft as gp sh sl lh ll) s)
      ⟨hl, rfl, rfl, rfl⟩ lead hroom
    rw [onBlock_blk, nameReceived_ck _ rfl] at htrailer
    exact ⟨_, _, hreceived.append htrailer, rfl, rfl, rfl, nameReceived_len _ nm ft as gp sh sl lh ll s.blk, hnm,
      rfl, rfl, rfl, bigEndian_toNat sh sl, bigEndian_toNat lh ll⟩
  · have htrailer := feeds_trailer (s := onBlock eofReceived s) ⟨hl, rfl, rfl, rfl⟩ lead hroom
    exact ⟨_, _, (feeds_eofReceived hl h0 hshift).append htrailer, rfl, rfl, rfl, rfl⟩

end Machine
end Sys2Proof

/-! PROOF. The cycle detector (R130 to R133): the sample step through acceptance, allocation, crossing and delivery, its
completion from the invariant, and the run of sample steps against the source's repeated scans. -/

namespace Sys2Proof
namespace Machine

/-! ## The sample step (R130) -/

/-- The state after step 2 of the sample step: a record is allocated where none is active (R130, R170). -/
def withRecord (s : State) : State := if s.active then s else allocate s

theorem withRecord_of_active {s : State} (h : s.active = true) : withRecord s = s := if_pos h

theorem withRecord_of_not_active {s : State} (h : s.active = false) : withRecord s = allocate s := by
  simp [withRecord, h]

@[simp] theorem withRecord_idx (s : State) : (withRecord s).idx = s.idx := by
  unfold withRecord
  split <;> rfl

@[simp] theorem withRecord_lastX (s : State) : (withRecord s).lastX = s.lastX := by
  unfold withRecord
  split <;> rfl

@[simp] theorem classify_withRecord (s : State) (len : Word) : classify (withRecord s) len = classify s len := by
  unfold withRecord
  split <;> rfl

/-- After step 2 an accepting block is inside a run with a record. -/
theorem live_withRecord {s : State} (h : Accepting s) : Live (withRecord s) := by
  cases hact : s.active with
  | true => rw [withRecord_of_active hact]; exact ⟨h, hact⟩
  | false => rw [withRecord_of_not_active hact]; exact ⟨h, rfl⟩

theorem crossing_withRecord_iff (b : Bool) (x : Sample) (s : State) :
    Crossing b x (withRecord s) ↔ Crossing b x s := by
  rw [Crossing, Crossing, withRecord_idx]

/-- The state after step 3 of the sample step off a crossing: the sign and the cursor move (R130). -/
def passed (x : Sample) (s : State) : State := { s with prevNN := nonNeg x, idx := s.idx + 1 }

/-- The state after step 3 on a crossing: `LAST_X` moves too (R130). -/
def crossed (x : Sample) (s : State) : State := { passed x s with lastX := s.idx }

@[simp] theorem passed_idx (x : Sample) (s : State) : (passed x s).idx = s.idx + 1 := rfl
@[simp] theorem passed_lastX (x : Sample) (s : State) : (passed x s).lastX = s.lastX := rfl
@[simp] theorem passed_prevNN (x : Sample) (s : State) : (passed x s).prevNN = nonNeg x := rfl
@[simp] theorem crossed_idx (x : Sample) (s : State) : (crossed x s).idx = s.idx + 1 := rfl
@[simp] theorem crossed_lastX (x : Sample) (s : State) : (crossed x s).lastX = s.idx := rfl
@[simp] theorem crossed_prevNN (x : Sample) (s : State) : (crossed x s).prevNN = nonNeg x := rfl

theorem live_crossed (x : Sample) {s : State} (h : Live s) : Live (crossed x s) := h

/-- A sample that is not accepted changes nothing (R114). -/
theorem samplePush_of_not_accepting (p : Params) (x : Sample) {s : State} (h : ¬ Accepting s) :
    samplePush p x s = .next s :=
  if_neg (mt (accepts_iff s).mp h)

/-- An accepted sample is judged with a record allocated. -/
theorem samplePush_of_accepting (p : Params) (x : Sample) {s : State} (h : Accepting s) :
    samplePush p x s = detect p s.prevNN x (withRecord s) :=
  if_pos ((accepts_iff s).mpr h)

theorem exec_crossing_of_live (prev cur : Sample) {s : State} (h : Live s) :
    exec (.crossing prev cur) s = detect Config.params (nonNeg prev) cur s :=
  if_pos ((live_iff s).mpr h)

/-- Steps 3 and 4 off a crossing: nothing is delivered (R130). -/
theorem detect_of_no_crossing (p : Params) {b : Bool} {x : Sample} {s : State} (hidx : s.idx ≠ BitVec.allOnes 32)
    (h : ¬ Crossing b x s) : detect p b x s = .next (passed x s) := by
  rw [detect, if_neg hidx, advance_of_no_crossing h, finishSample, passed]

/-- Steps 3 and 4 on a crossing: the class of the cycle length is delivered (R130). -/
theorem detect_of_crossing (p : Params) {b : Bool} {x : Sample} {s : State} (hidx : s.idx ≠ BitVec.allOnes 32)
    (h : Crossing b x s) :
    detect p b x s = deliver p (classify s (s.idx - s.lastX)) (crossed x s) := by
  rw [detect, if_neg hidx, advance_of_crossing h, finishSample]
  rfl

/-- On a live record a delivery is the operation BITSTEP of the bit, and NONE is dropped (R130 step 4, R152). -/
theorem deliver_eq_exec_bitstep {s : State} (h : Live s) (c : BitClass) :
    deliver Config.params c s = match c with
      | .bit1 => exec (.bitstep true) s
      | .bit0 => exec (.bitstep false) s
      | .none => .next s := by
  cases c with
  | bit1 => exact (exec_bitstep_of_live true h).symm
  | bit0 => exact (exec_bitstep_of_live false h).symm
  | none => rfl

/-- The last index, as the statements write it (D3). -/
theorem ne_allOnes_of_ne {w : Word} (h : w ≠ 0xFFFFFFFF) : w ≠ BitVec.allOnes 32 := h

/-- Settles O6: not accepted, and, with the record of step 2, off and on a crossing. -/
theorem samplePushFollowsSampleStep : Obligations.SamplePushFollowsSampleStep := by
  intro x s
  refine ⟨samplePush_of_not_accepting Config.params x, fun ha hidx hc => ?_, fun ha hidx hc => ?_⟩
  all_goals
    have hpush : exec (.samplePush x) s = detect Config.params s.prevNN x (withRecord s) :=
      samplePush_of_accepting Config.params x ha
    have hlast : (withRecord s).idx ≠ BitVec.allOnes 32 := by
      rw [withRecord_idx]
      exact ne_allOnes_of_ne hidx
  · rw [hpush, detect_of_no_crossing _ hlast (mt (crossing_withRecord_iff _ x s).mp hc), passed, withRecord_idx]
    rfl
  · rw [hpush, detect_of_crossing _ hlast ((crossing_withRecord_iff _ x s).mpr hc), classify_withRecord,
      withRecord_lastX, crossed, passed, withRecord_idx]
    refine deliver_eq_exec_bitstep ?_ _
    exact live_crossed x (live_withRecord ha)

/-! ## A pair of samples (R131, R132) -/

/-- A falling pair met at an index from 1 up is a crossing, its first sample's sign taken for `PREV_NN` (log 4). -/
theorem crossing_of_falling_pair {prev cur : Sample} {s : State} (hidx : 1 ≤ s.idx.toNat) (hprev : 0 ≤ prev.toInt)
    (hcur : cur.toInt < 0) : Crossing (nonNeg prev) cur s :=
  ⟨hidx, decide_eq_true hprev, hcur⟩

theorem nonNeg_eq_false {x : Sample} (h : x.toInt < 0) : nonNeg x = false := decide_eq_false (by omega)

/-- Settles O7: the pair is a crossing, and its cycle is delivered on the live record. -/
theorem crossingMeasuresCycle : Obligations.CrossingMeasuresCycle := by
  intro prev cur s hl hpos hidx hprev hcur
  rw [exec_crossing_of_live prev cur hl,
    detect_of_crossing _ (ne_allOnes_of_ne hidx) (crossing_of_falling_pair hpos hprev hcur),
    crossed, passed, nonNeg_eq_false hcur]
  refine deliver_eq_exec_bitstep ?_ _
  exact live_crossed cur hl

/-! ## Completion (R28, R64, R130, R172) -/

theorem bitEffect_lastX {s t : State} (h : BitEffect s t) : t.lastX = s.lastX := by
  cases h with
  | record => rfl
  | raised => rfl
  | committed => exact commitBlock_lastX _

theorem bitEffect_prevNN {s t : State} (h : BitEffect s t) : t.prevNN = s.prevNN := by
  cases h with
  | record => rfl
  | raised => rfl
  | committed => exact commitBlock_prevNN _

/-- A delivery that stays inside the record completes, and its effect is on the record and the store alone. -/
theorem deliver_completes (c : BitClass) {s : State} (h : InBounds s.blk) :
    ∃ t, deliver Config.params c s = .next t ∧ BitEffect s t := by
  obtain ⟨f, e⟩ | ⟨b, e⟩ | ⟨b, c', e, hcode⟩ | ⟨b, hroom, e⟩ := deliver_cases Config.params c s
  · exact absurd e (deliver_noFault Config.params c h f)
  · exact ⟨_, e, .record b⟩
  · exact ⟨_, e, .raised b c' hcode⟩
  · exact ⟨_, e, .committed b hroom⟩

theorem bitStep_completes (c : Bool) {s : State} (h : InBounds s.blk) :
    ∃ t, bitStep Config.params c s = .next t ∧ BitEffect s t := by
  cases c with
  | false => exact deliver_completes .bit0 h
  | true => exact deliver_completes .bit1 h

/-- Steps 3 and 4 complete below the last index; what they deliver leaves the detector's registers as step 3 set
them. -/
theorem detect_completes (b : Bool) (x : Sample) {s : State} (h : InBounds s.blk) (hidx : s.idx ≠ BitVec.allOnes 32) :
    ∃ t, detect Config.params b x s = .next t ∧ t.idx.toNat = s.idx.toNat + 1 ∧ t.prevNN = nonNeg x ∧
      t.lastX = if Crossing b x s then s.idx else s.lastX := by
  by_cases hc : Crossing b x s
  · obtain ⟨t, e, hb⟩ := deliver_completes (classify s (s.idx - s.lastX))
      (s := crossed x s) h
    refine ⟨t, (detect_of_crossing _ hidx hc).trans e, ?_, bitEffect_prevNN hb, ?_⟩
    · rw [bitEffect_idx hb, crossed_idx]
      exact toNat_succ_of_ne_allOnes hidx
    · rw [bitEffect_lastX hb, crossed_lastX, if_pos hc]
  · exact ⟨_, detect_of_no_crossing _ hidx hc, toNat_succ_of_ne_allOnes hidx, rfl, (if_neg hc).symm⟩

/-- Under the invariant the record of step 2 is inside its bounds: it is live already, or blank. -/
theorem inBounds_withRecord {s : State} (h : MachineInv s) (ha : Accepting s) : InBounds (withRecord s).blk := by
  cases hact : s.active with
  | true => rw [withRecord_of_active hact]; exact inBounds_of_inv h ⟨ha, hact⟩
  | false => rw [withRecord_of_not_active hact]; exact inBounds_fresh

/-- Settles O8: a sample and a pair by the completion of the detector, a bit and a class by that of a delivery. -/
theorem blockStepsComplete : Obligations.BlockStepsComplete := by
  intro s h
  refine ⟨fun x ha hidx => ?_, fun prev cur hl hpos hidx hprev hcur => ?_, fun hl => ?_⟩
  · have hcompletes := detect_completes s.prevNN x (inBounds_withRecord h ha)
    simp only [withRecord_idx, withRecord_lastX, crossing_withRecord_iff] at hcompletes
    rw [← samplePush_of_accepting Config.params x ha] at hcompletes
    exact hcompletes (ne_allOnes_of_ne hidx)
  · obtain ⟨t, e, htidx, _, hlast⟩ :=
      detect_completes (nonNeg prev) cur (inBounds_of_inv h hl) (ne_allOnes_of_ne hidx)
    refine ⟨t, (exec_crossing_of_live prev cur hl).trans e, htidx, ?_⟩
    rw [hlast, if_pos (crossing_of_falling_pair hpos hprev hcur)]
  · have hbit (c : Bool) : ∃ t, exec (.bitstep c) s = .next t ∧ BitEffect s t := by
      rw [exec_bitstep_of_live c hl]
      exact bitStep_completes c (inBounds_of_inv h hl)
    have hcls0 : exec .clsBit0 s = exec (.bitstep false) s := rfl
    have hcls1 : exec .clsBit1 s = exec (.bitstep true) s := rfl
    rw [hcls0, hcls1]
    obtain ⟨t0, e0, _⟩ := hbit false
    obtain ⟨t1, e1, _⟩ := hbit true
    exact ⟨fun c => (hbit c).imp fun _ => And.imp_right bitEffect_idx, ⟨t0, e0, e0⟩, ⟨t1, e1, e1⟩⟩

/-! ## The detector against the source's scans (R133) -/

/-- No crossing is left after a cursor behind which the rest of the sequence holds none. -/
theorem nextFall_of_noFallBetween {xs : List Sample} {cur : Nat} (h : NoFallBetween xs cur xs.length) :
    nextFall xs cur = none := by
  refine List.find?_eq_none.mpr fun i hi => ?_
  by_cases hc : cur < i
  · simp [h i hc (List.mem_range.mp hi)]
  · simp [hc]

/-- A gap without crossings extended over one index that is none. -/
theorem noFallBetween_succ {xs : List Sample} {lo hi : Nat} (h : NoFallBetween xs lo hi) (hhi : fallsAt xs hi = false) :
    NoFallBetween xs lo (hi + 1) := by
  intro i hlo hlt
  rcases Nat.lt_succ_iff_lt_or_eq.mp hlt with hlt | rfl
  · exact h i hlo hlt
  · exact hhi

/-- The detector stands before sample `k` of a sequence: its registers say what R21 to R23 say of the samples before
it, and the source's scan from `LAST_X` would not have stopped yet. -/
structure StandsAt (xs : List Sample) (k : Nat) (s : State) : Prop where
  /-- `IDX` is the index of the next sample (R21). -/
  idx : s.idx.toNat = k
  /-- `PREV_NN` is the sign of the sample before it (R23). -/
  prevNN : ∀ j a, k = j + 1 → xs[j]? = some a → s.prevNN = nonNeg a
  /-- `LAST_X` is 0 or an earlier index (R22). -/
  lastX : s.lastX.toNat = 0 ∨ s.lastX.toNat < k
  /-- No crossing was met since `LAST_X` (R22). -/
  gap : NoFallBetween xs s.lastX.toNat k

theorem standsAt_start (xs : List Sample) {s : State} (hidx : s.idx = 0) (hlast : s.lastX = 0) :
    StandsAt xs 0 s where
  idx := by rw [hidx]; rfl
  prevNN _ _ h := nomatch h
  lastX := .inl (by rw [hlast]; rfl)
  gap _ _ h := absurd h (Nat.not_lt_zero _)

section
variable {xs : List Sample} {k : Nat} {x : Sample} {s : State}

/-- The detector's crossing condition is a crossing of the sequence at the index it stands at (R130, R131). -/
theorem crossing_iff_fallsAt (h : StandsAt xs k s) (hx : xs[k]? = some x) :
    Crossing s.prevNN x s ↔ fallsAt xs k = true := by
  have hneg : x.toInt < 0 ↔ nonNeg x = false := by simp [nonNeg]
  rw [Crossing, h.idx, hneg]
  cases k with
  | zero => exact iff_of_false (fun hc => absurd hc.1 (by omega)) nofun
  | succ j =>
    obtain ⟨a, ha⟩ : ∃ a, xs[j]? = some a := by
      obtain ⟨hlt, _⟩ := List.getElem?_eq_some_iff.mp hx
      exact ⟨_, List.getElem?_eq_getElem (by omega)⟩
    rw [fallsAt_succ_iff, h.prevNN j a rfl ha]
    simp [ha, hx]

/-- The sign and the cursor are moved on every sample, so the next position differs by where `LAST_X` lies. -/
theorem standsAt_succ {t : State} (hx : xs[k]? = some x) (hidx : t.idx.toNat = k + 1) (hsign : t.prevNN = nonNeg x)
    (hlast : t.lastX.toNat = 0 ∨ t.lastX.toNat < k + 1) (hgap : NoFallBetween xs t.lastX.toNat (k + 1)) :
    StandsAt xs (k + 1) t where
  idx := hidx
  prevNN := by
    rintro j a hj ha
    cases hj
    cases hx.symm.trans ha
    exact hsign
  lastX := hlast
  gap := hgap

theorem StandsAt.toNat_idx_succ (h : StandsAt xs k s) (hk : k < 2 ^ 32 - 1) : (s.idx + 1).toNat = k + 1 := by
  have hidx := h.idx
  bv_omega

/-- A sample off a crossing: the scan from the same `LAST_X` has one index more behind it. -/
theorem standsAt_of_no_crossing (h : StandsAt xs k s) (hx : xs[k]? = some x) (hk : k < 2 ^ 32 - 1)
    (hfall : fallsAt xs k = false) : StandsAt xs (k + 1) (passed x s) :=
  standsAt_succ hx (h.toNat_idx_succ hk) rfl (h.lastX.imp_right Nat.lt_succ_of_lt) (noFallBetween_succ h.gap hfall)

/-- A sample on a crossing: the scan starts again from it. -/
theorem standsAt_of_crossing (h : StandsAt xs k s) (hx : xs[k]? = some x) (hk : k < 2 ^ 32 - 1) :
    StandsAt xs (k + 1) (crossed x s) := by
  refine standsAt_succ hx (h.toNat_idx_succ hk) rfl ?_ fun i hlo hhi => ?_
  · exact .inr (h.idx.trans_lt (Nat.lt_succ_self k))
  · rw [crossed_lastX, h.idx] at hlo
    omega

/-- At a crossing `LAST_X` lies before the cursor, so the cycle length does not wrap (R132). -/
theorem StandsAt.lastX_lt (h : StandsAt xs k s) (hc : Crossing s.prevNN x s) : s.lastX.toNat < k := by
  have hpos := hc.1
  rw [h.idx] at hpos
  rcases h.lastX with hlast | hlast <;> omega

end

theorem detectorRun_of_crossing {x : Sample} {s : State} (rest : List Sample) (h : Crossing s.prevNN x s) :
    detectorRun (x :: rest) s = (s.idx, s.idx - s.lastX) ::
      detectorRun rest (crossed x s) := by
  rw [detectorRun, advance_of_crossing h]
  rfl

theorem detectorRun_of_no_crossing {x : Sample} {s : State} (rest : List Sample) (h : ¬ Crossing s.prevNN x s) :
    detectorRun (x :: rest) s = detectorRun rest (passed x s) := by
  rw [detectorRun, advance_of_no_crossing h]
  rfl

/-- From any position the sample steps on the samples left find what the repeated scans from `LAST_X` find, the fuel of
the scans being at least the number of samples left. -/
theorem detectorRun_eq_scanFrom {xs : List Sample} (hlen : xs.length ≤ 2 ^ 32 - 1) (rest : List Sample) (k fuel : Nat)
    (s : State) (hrest : xs.drop k = rest) (hk : k ≤ xs.length) (h : StandsAt xs k s) (hfuel : rest.length ≤ fuel) :
    (detectorRun rest s).map (fun c => (c.1.toNat, c.2.toNat)) = scanFrom xs fuel s.lastX.toNat := by
  induction rest generalizing k fuel s with
  | nil =>
    have hend : k = xs.length := Nat.le_antisymm hk (List.drop_eq_nil_iff.mp hrest)
    have hgap := h.gap
    rw [hend] at hgap
    rw [scanFrom_of_none fuel (nextFall_of_noFallBetween hgap)]
    rfl
  | cons x rest ih =>
    have hx : xs[k]? = some x := by rw [← List.head?_drop, hrest]; rfl
    have hdrop : xs.drop (k + 1) = rest := by rw [← List.tail_drop, hrest]; rfl
    obtain ⟨hlt, _⟩ := List.getElem?_eq_some_iff.mp hx
    by_cases hfall : fallsAt xs k = true
    · have hc := (crossing_iff_fallsAt h hx).mpr hfall
      have hlast := h.lastX_lt hc
      obtain ⟨n, rfl⟩ : ∃ n, fuel = n + 1 := Nat.exists_eq_add_one.mpr (Nat.lt_of_lt_of_le (Nat.succ_pos _) hfuel)
      have hcycle : (s.idx - s.lastX).toNat = k - s.lastX.toNat := by
        have hidx := h.idx
        rw [BitVec.toNat_sub_of_le (BitVec.le_def.mpr (by omega)), hidx]
      have hscan := ih (k + 1) n _ hdrop hlt (standsAt_of_crossing h hx (by omega)) (Nat.le_of_succ_le_succ hfuel)
      rw [detectorRun_of_crossing rest hc, scanFrom_of_some n (nextFall_eq_some hlast hlt hfall h.gap),
        List.map_cons, hscan, hcycle, crossed_lastX, h.idx]
    · have hc := mt (crossing_iff_fallsAt h hx).mp hfall
      rw [detectorRun_of_no_crossing rest hc]
      exact ih (k + 1) fuel _ hdrop hlt (standsAt_of_no_crossing h hx (by omega) (Bool.eq_false_iff.mpr hfall))
        (Nat.le_of_succ_le hfuel)

/-- Settles O49: the run from the first sample, at whose start the scan's cursor is 0. -/
theorem detectorEqualsSourceScan : Obligations.DetectorEqualsSourceScan := by
  intro xs s hlen hidx hlast
  rw [detectorRun_eq_scanFrom hlen xs 0 xs.length s rfl (Nat.zero_le _) (standsAt_start xs hidx hlast) (Nat.le_refl _),
    hlast]
  rfl

end Machine
end Sys2Proof

/-! PROOF. The bit classifier (R150 to R158): the two tests on integer values, and the thresholds they compare with,
which are fixed while a run is on. -/

namespace Sys2Proof
namespace Machine

/-! ## The two tests (R150) -/

/-- The classifier's comparisons are those of the integer values, the one-range first (R150, R154). -/
theorem classify_eq_ite_toNat (s : State) (len : Word) :
    classify s len = if s.oneLo.toNat ≤ len.toNat ∧ len.toNat ≤ s.oneHi.toNat then .bit1
      else if s.zeroLo.toNat ≤ len.toNat ∧ len.toNat ≤ s.zeroHi.toNat then .bit0
      else .none := by
  simp only [classify, BitVec.le_def]

/-- Settles O9: one clause for each branch of the two tests. -/
theorem classifierTestsOneRangeFirst : Obligations.ClassifierTestsOneRangeFirst := by
  intro s len inOne inZero
  rw [classify_eq_ite_toNat]
  refine ⟨fun hone => if_pos hone, fun hnotOne hzero => ?_, fun hnotOne hnotZero => ?_⟩
  · rw [if_neg hnotOne, if_pos hzero]
  · rw [if_neg hnotOne, if_neg hnotZero]

/-! ## The thresholds (R157) -/

/-- The four thresholds hold the same (R24). -/
def SameThresholds (s t : State) : Prop :=
  t.oneLo = s.oneLo ∧ t.oneHi = s.oneHi ∧ t.zeroLo = s.zeroLo ∧ t.zeroHi = s.zeroHi

theorem sameThresholds_refl (s : State) : SameThresholds s s := ⟨rfl, rfl, rfl, rfl⟩

theorem SameThresholds.trans {s t u : State} (h : SameThresholds s t) (h' : SameThresholds t u) :
    SameThresholds s u := by
  obtain ⟨hol, hoh, hzl, hzh⟩ := h
  obtain ⟨hol', hoh', hzl', hzh'⟩ := h'
  exact ⟨hol'.trans hol, hoh'.trans hoh, hzl'.trans hzl, hzh'.trans hzh⟩

theorem hostOnly_sameThresholds {s t : State} (h : hostOnly s t) : SameThresholds s t := by
  obtain ⟨⟨_, _, _, hol, hoh, hzl, hzh, _⟩, _⟩ := h
  exact ⟨hol, hoh, hzl, hzh⟩

theorem bitEffect_sameThresholds {s t : State} (h : BitEffect s t) : SameThresholds s t := by
  cases h with
  | record | raised | committed => exact sameThresholds_refl s

theorem ackEvent_sameThresholds (s : State) : SameThresholds s (ackEvent s) := by
  rcases ackEvent_cases s with h | ⟨_, _, _, h⟩ <;> rw [h] <;> exact sameThresholds_refl s

/-- Of the two effects that write a threshold, RESET_ASSERT is excluded and CFG_WRITE has one only under reset (R342). -/
theorem effect_sameThresholds {i : Instr} {s t : State} (h : Effect i s t) (hrst : s.rst = false)
    (hi : i ≠ .resetAssert) : SameThresholds s t := by
  cases h with
  | reset hreset => exact absurd hreset hi
  | threshold _ _ _ hr => exact absurd (hrst.symm.trans hr) nofun
  | same | deassert | allocated | raisedBy => exact sameThresholds_refl s
  | ack => exact ackEvent_sameThresholds s
  | bit _ _ _ hb => exact bitEffect_sameThresholds hb
  | sample s1 _ _ _ _ h1 _ _ _ hb =>
    have hbit := bitEffect_sameThresholds hb
    rcases h1 with ⟨rfl, _⟩ | ⟨rfl, _⟩ <;> exact hbit
  | host _ _ ho => exact hostOnly_sameThresholds ho
  | handled u _ _ ho => exact (hostOnly_sameThresholds ho).trans (ackEvent_sameThresholds u)

/-- Settles O28: the inversion of `exec`, effect by effect. -/
theorem thresholdsFixedDuringRun : Obligations.ThresholdsFixedDuringRun :=
  fun _ _ _ hrst hi e => effect_sameThresholds (exec_effect e) hrst hi

end Machine
end Sys2Proof

/-! PROOF. The operations of the frame assembler (R170 to R189), each in the state where it can occur: allocation, the
bit step, the byte a bit completes, and the handler of each state. -/

namespace Sys2Proof
namespace Machine

section
variable {s : State}

/-! ## Allocation (R170) -/

theorem exec_allocate_of_met (ha : Accepting s) (hact : s.active = false) : exec .allocate s = .next (allocate s) := by
  refine congrArg _ (if_pos ?_)
  rw [Bool.and_eq_true, accepts_iff, hact]
  exact ⟨ha, rfl⟩

/-! ## The sync search (R175) -/

theorem syncCheck_of_eq {b : Block} (h : b.shift = Config.syncByte) : syncCheck b = synced b := if_pos h

theorem syncCheck_of_ne {b : Block} (h : b.shift ≠ Config.syncByte) : syncCheck b = b := if_neg h

theorem exec_stNeedSyncByte_of_met (hl : Live s) (h0 : s.blk.state = 0) :
    exec .stNeedSyncByte s = .next (onBlock syncCheck s) :=
  congrArg _ (if_pos ((live_and_state_iff stNeedSyncByte).mpr ⟨hl, h0⟩))

/-- SYNC answers the match whatever the window holds (log 21). -/
theorem exec_sync_of_met (hl : Live s) (h0 : s.blk.state = 0) : exec .sync s = .next (onBlock synced s) :=
  congrArg _ (if_pos ((live_and_state_iff stNeedSyncByte).mpr ⟨hl, h0⟩))

/-! ## Handlers (R173) -/

theorem ite_atByte_of_atByte {c : Code} (r : Res) (h : AtByte c s) : (if atByte c s then r else .next s) = r :=
  if_pos ((atByte_iff c s).mpr h)

theorem exec_stNeedBlockType_of_atByte (h : AtByte 1 s) (v : Byte) :
    exec (.stNeedBlockType v) s = .next (onBlock (needBlockType v) s) :=
  ite_atByte_of_atByte _ h

theorem exec_stNeedLength_of_atByte (h : AtByte 2 s) (v : Byte) :
    exec (.stNeedLength v) s = .next (onBlock (needLength v) s) :=
  ite_atByte_of_atByte _ h

theorem exec_stNeedName_of_atByte (h : AtByte 3 s) (v : Byte) (hn : s.blk.nidx.toNat < Config.nameChars) :
    exec (.stNeedName v) s = .next { s with blk := storeName v s.blk hn } :=
  (ite_atByte_of_atByte _ h).trans (dif_pos hn)

theorem exec_stNeedData_of_atByte (h : AtByte 9 s) (v : Byte) (hd : s.blk.didx.toNat < s.blk.len.toNat) :
    exec (.stNeedData v) s = .next (onBlock (storeData v) s) :=
  (ite_atByte_of_atByte _ h).trans (if_pos hd)

theorem exec_stNeedCksum_of_atByte (h : AtByte 10 s) (v : Byte) : exec (.stNeedCksum v) s = .next (needCksum v s) :=
  ite_atByte_of_atByte _ h

theorem exec_stNeedLeadByte_of_atByte (h : AtByte 11 s) (v : Byte) :
    exec (.stNeedLeadByte v) s = .next (doneEntry Config.params s) :=
  ite_atByte_of_atByte _ h

/-- The length rows of a type are NeedLength on a record of that type (R178, log 21). -/
theorem lengthOf_of_btype {bt : BitVec 2} (v : Byte) (h : s.blk.btype = bt) :
    lengthOf bt v s = exec (.stNeedLength v) s :=
  if_pos h

theorem needCksum_of_eq {v : Byte} (h : v = s.blk.ck) :
    needCksum v s = { s with blk := { s.blk with ckrx := v, state := 11 } } :=
  if_pos h

theorem needCksum_of_ne {v : Byte} (h : v ≠ s.blk.ck) :
    needCksum v s = { s with blk := { s.blk with ckrx := v }, fault := true, faultCode := 1 } :=
  if_neg h

theorem doneEntry_of_room {p : Params} (h : s.seqLen < p.seqCap) :
    doneEntry p s = commitBlock (onBlock (fun b => { b with state := 12 }) s) :=
  if_neg (Nat.not_le.mpr h)

theorem doneEntry_of_full {p : Params} (h : p.seqCap ≤ s.seqLen) :
    doneEntry p s = raiseBlock fcResource (onBlock (fun b => { b with state := 12 }) s) :=
  if_pos h

/-- The record committed is the entry at `SEQ_LEN` (R189). -/
theorem seqEntry_commitBlock (s : State) : seqEntry (commitBlock s) s.seqLen = s.blk :=
  congrArg (Option.getD · Block.fresh) (storeAt_getElem? Block.fresh s.blk s.seq s.seqLen)

theorem handlerRows_state {r : Code × (Byte → Instr)} (hr : r ∈ handlerRows) : 1 ≤ r.1.toNat ∧ r.1.toNat ≤ 11 := by
  simp only [handlerRows, List.mem_cons, List.not_mem_nil, or_false] at hr
  rcases hr with rfl | rfl | rfl | rfl | rfl | rfl | rfl | rfl | rfl | rfl | rfl <;> decide

/-- Each row of the handlers, on a fresh byte of its state, is the dispatch on that state (R173). -/
theorem handlerRow_of_atByte {r : Code × (Byte → Instr)} (hr : r ∈ handlerRows) (v : Byte) (h : AtByte r.1 s) :
    exec (r.2 v) s = byteHandler Config.params v s := by
  have ⟨_, hstate, _, _⟩ := h
  simp only [handlerRows, List.mem_cons, List.not_mem_nil, or_false] at hr
  rw [byteHandler, hstate]
  rcases hr with rfl | rfl | rfl | rfl | rfl | rfl | rfl | rfl | rfl | rfl | rfl <;>
    exact ite_atByte_of_atByte _ h

/-- The dispatch that a completed byte meets is its state's row, the record on a fresh byte again. -/
theorem byteHandler_of_completed {r : Code × (Byte → Instr)} (hr : r ∈ handlerRows) (hl : Live s)
    (hstate : s.blk.state = r.1) (v : Byte) :
    byteHandler Config.params v (onBlock (fun b => { b with shift := 0, bitcnt := 0 }) s) =
      exec (r.2 v) (onBlock (fun b => { b with shift := 0, bitcnt := 0 }) s) :=
  (handlerRow_of_atByte (s := onBlock (fun b => { b with shift := 0, bitcnt := 0 }) s) hr v
    ⟨hl, hstate, rfl, rfl⟩).symm

end

/-! ## The statements of the bit level -/

/-- Settles O13: the eighth bit runs the dispatch, which is the state's row. -/
theorem eighthBitRunsHandler : Obligations.EighthBitRunsHandler := by
  intro c s r hr hl hstate hcnt
  have ⟨hlow, hhigh⟩ := handlerRows_state hr
  rw [← hstate] at hlow hhigh
  exact (exec_bitstep_of_eq hl hlow hhigh c (by rw [hcnt]; rfl)).trans (byteHandler_of_completed hr hl hstate _)

/-- Settles O14: eight bits run the dispatch on the byte they leave in the register. -/
theorem byteFedIsByteCompleted : Obligations.ByteFedIsByteCompleted := by
  intro x s r hr hl hstate hcnt
  have ⟨hlow, hhigh⟩ := handlerRows_state hr
  rw [← hstate] at hlow hhigh
  have hbits : feed [x] = (bitsOf x).map Instr.bitstep := by simp [feed, bitsOfBytes]
  have hfresh : onBlock (fun b => { b with shift := 0, bitcnt := 0 }) s =
      { s with blk := { s.blk with shift := 0 } } := by
    rw [← hcnt]
    rfl
  rw [hbits, execAll_bits hl hlow hhigh (bitsOf x) nofun (by rw [hcnt]; rfl), insertBits_byte,
    byteHandler_of_completed hr hl hstate, hfresh]

/-- Settles O10. -/
theorem allocateZeroesRecord : Obligations.AllocateZeroesRecord :=
  fun _ ha hact => ⟨exec_allocate_of_met ha hact, fun _ => rfl⟩

/-- Settles O11: a bit completes the sync byte or not, and the check alone compares the window as it stands. -/
theorem syncSearchChecksEveryBit : Obligations.SyncSearchChecksEveryBit := by
  intro s hl h0 found
  refine ⟨fun c => ?_, fun hsync => ?_, fun hne => ?_, exec_sync_of_met hl h0⟩
  · intro w
    by_cases hw : w = 0x3C
    · rw [if_pos hw]
      exact exec_bitstep_of_sync hl h0 c hw
    · rw [if_neg hw]
      exact exec_bitstep_of_no_sync hl h0 c hw
  · rw [exec_stNeedSyncByte_of_met hl h0, onBlock, syncCheck_of_eq hsync]
    rfl
  · rw [exec_stNeedSyncByte_of_met hl h0, onBlock, syncCheck_of_ne hne]

/-- Settles O12. -/
theorem bitStepCountsBits : Obligations.BitStepCountsBits :=
  fun c _ hl hlow hhigh hcnt => exec_bitstep_of_lt hl hlow hhigh c hcnt

/-! ## The statements of the state handlers -/

theorem needBlockType_of_invalid {v : Byte} (b : Block) (h0 : v ≠ Config.typeName) (h1 : v ≠ Config.typeData)
    (hff : v ≠ Config.typeEof) : needBlockType v b = { b with state := 0 } := by
  rw [needBlockType, if_neg h0, if_neg h1, if_neg hff]
  rfl

/-- Settles O15: the type rows are the handler on their byte (log 21). -/
theorem typeByteSelectsBlock : Obligations.TypeByteSelectsBlock := by
  intro s h accept
  have hrow := exec_stNeedBlockType_of_atByte h
  refine ⟨hrow 0x00, hrow 0x00, hrow 0x01, hrow 0x01, hrow 0xFF, hrow 0xFF, fun v h0 h1 hff => ?_⟩
  have hinvalid := hrow v
  rw [onBlock, needBlockType_of_invalid s.blk h0 h1 hff] at hinvalid
  exact ⟨hinvalid, hinvalid⟩

/-- The record with the length byte written and summed, before the frame is judged (R178). -/
def lengthStored (v : Byte) (b : Block) : Block := { b with len := v, ck := b.ck + v }

theorem badLength_iff (bt : BitVec 2) (v : Byte) :
    badLength bt v = true ↔ bt = 1 ∧ v ≠ 15 ∨ bt = 3 ∧ v ≠ 0 := by
  simp [badLength, btName, btEof, Config.nameBlockLen, Config.eofBlockLen]

theorem needLength_of_bad {v : Byte} {b : Block} (h : b.btype = 1 ∧ v ≠ 15 ∨ b.btype = 3 ∧ v ≠ 0) :
    needLength v b = { lengthStored v b with state := 0 } :=
  if_pos ((badLength_iff b.btype v).mpr h)

theorem needLength_of_name {v : Byte} {b : Block} (ht : b.btype = 1) (hv : v = 15) :
    needLength v b = { lengthStored v b with nidx := 0, state := 3 } := by
  have hgood : ¬ badLength b.btype v = true := by simp [badLength_iff, ht, hv]
  exact (if_neg hgood).trans (if_pos ht)

theorem needLength_of_eof {v : Byte} {b : Block} (ht : b.btype = 3) (hv : v = 0) :
    needLength v b = { lengthStored v b with state := 10 } := by
  have hgood : ¬ badLength b.btype v = true := by simp [badLength_iff, ht, hv]
  have hname : b.btype ≠ btName := by rw [ht]; decide
  exact (if_neg hgood).trans ((if_neg hname).trans (if_pos ht))

/-- A Data block, and with it an undetermined type (log 23): the payload's entries below the length are cleared. -/
theorem needLength_of_data (v : Byte) {b : Block} (h1 : b.btype ≠ 1) (h3 : b.btype ≠ 3) :
    needLength v b = { lengthStored v b with
      payload := memClear b.payload v.toNat, didx := 0, state := if v = 0 then 10 else 9 } := by
  have hgood : ¬ badLength b.btype v = true := by
    rw [badLength_iff]
    rintro (⟨ht, _⟩ | ⟨ht, _⟩)
    · exact h1 ht
    · exact h3 ht
  exact (if_neg hgood).trans ((if_neg h1).trans (if_neg h3))

/-- Settles O16: one clause for each branch of the judgement. -/
theorem lengthByteJudgesFrame : Obligations.LengthByteJudgesFrame := by
  intro s v h b
  have hrow := exec_stNeedLength_of_atByte h v
  rw [onBlock] at hrow
  refine ⟨fun hbad => ?_, fun ht hv => ?_, fun ht hv => ?_, fun h1 h3 => ?_⟩
  · rw [hrow, needLength_of_bad hbad]
    rfl
  · rw [needLength_of_name ht hv] at hrow
    subst hv
    exact ⟨hrow, (lengthOf_of_btype 15 ht).trans hrow⟩
  · rw [needLength_of_eof ht hv] at hrow
    subst hv
    exact ⟨hrow, (lengthOf_of_btype 0 ht).trans hrow⟩
  · rw [needLength_of_data v h1 h3] at hrow
    exact ⟨_, memRead_memClear s.blk.payload v.toNat, hrow, fun ht => (lengthOf_of_btype v ht).trans hrow⟩

/-- Settles O17: the eighth byte is the one at index 7. -/
theorem nameByteIsStored : Obligations.NameByteIsStored := by
  intro s v hn h
  have hrow := exec_stNeedName_of_atByte h v hn
  have ⟨_, hstate, _, _⟩ := h
  simp only [storeName, nidx_last_iff, hstate] at hrow
  exact hrow

/-- Settles O18. -/
theorem flagBytesAreStored : Obligations.FlagBytesAreStored := fun _ _ =>
  ⟨fun h => ite_atByte_of_atByte _ h, fun h => ite_atByte_of_atByte _ h, fun h => ite_atByte_of_atByte _ h⟩

theorem pushByte_toNat (a : BitVec 16) (v : Byte) : (pushByte a v).toNat = 256 * (a.toNat % 256) + v.toNat := by
  rw [pushByte, bigEndian_toNat, BitVec.extractLsb'_toNat]
  rfl

theorem eq_pushByte_of_toNat {a old : BitVec 16} {v : Byte} (h : a.toNat = 256 * (old.toNat % 256) + v.toNat) :
    a = pushByte old v :=
  BitVec.eq_of_toNat_eq (h.trans (pushByte_toNat old v).symm)

theorem aidx_of_lt_two {a : BitVec 2} (h : a.toNat < 2) : a = 0 ∨ a = 1 := by bv_omega

/-- Settles O19: the first and the second byte of each address. -/
theorem addressBytesAreStored : Obligations.AddressBytesAreStored := by
  intro s v a haidx
  refine ⟨fun h ha => ?_, fun h ha => ?_⟩
  · have hrow : exec (.stNeedStartAddr v) s = .next (onBlock (needStartAddr v) s) := ite_atByte_of_atByte _ h
    have ⟨_, hstate, _, _⟩ := h
    rw [hrow, onBlock, eq_pushByte_of_toNat ha]
    rcases aidx_of_lt_two haidx with h0 | h1
    · rw [needStartAddr_of_first v h0, h0, hstate]
      rfl
    · rw [needStartAddr_of_second v h1, h1]
      rfl
  · have hrow : exec (.stNeedLoadAddr v) s = .next (onBlock (needLoadAddr v) s) := ite_atByte_of_atByte _ h
    have ⟨_, hstate, _, _⟩ := h
    rw [hrow, onBlock, eq_pushByte_of_toNat ha]
    rcases aidx_of_lt_two haidx with h0 | h1
    · rw [needLoadAddr_of_first v h0, h0, hstate]
      rfl
    · rw [needLoadAddr_of_second v h1, h1]
      rfl

/-- Below the length the data index does not wrap, so NeedData's test is one of numbers (R64, R185). -/
theorem didx_last_iff {didx len : Byte} (h : didx.toNat < len.toNat) :
    didx + 1 = len ↔ didx.toNat + 1 = len.toNat := by
  bv_omega

/-- Settles O20: the read after the write, and the handler's test as one of numbers. -/
theorem dataByteIsStored : Obligations.DataByteIsStored := by
  intro s v h hd hwf
  have hrow := exec_stNeedData_of_atByte h v hd
  have ⟨_, hstate, _, _⟩ := h
  simp only [onBlock, storeData, didx_last_iff hd, hstate] at hrow
  exact ⟨_, fun k => memRead_memWrite hwf.1 _ k v, hrow⟩

/-- Settles O21: the two answers of the comparison. -/
theorem checksumByteIsCompared : Obligations.ChecksumByteIsCompared := by
  intro s v h
  have hrow := exec_stNeedCksum_of_atByte h v
  refine ⟨fun heq => ?_, fun hne => ?_⟩
  · rw [needCksum_of_eq heq] at hrow
    exact ⟨hrow, hrow⟩
  · rw [needCksum_of_ne hne] at hrow
    exact ⟨hrow, hrow⟩

/-- Settles O22: Done's entry with room and without, and the store's entries after the append. -/
theorem doneAppendsRecord : Obligations.DoneAppendsRecord := by
  intro s v h b full kept
  have hrow := exec_stNeedLeadByte_of_atByte h v
  have hkept : commitBlock (onBlock (fun b => { b with state := 12 }) s) = kept := by
    have ⟨⟨⟨_, _, hpending⟩, _⟩, _, _, _⟩ := h
    simp only [commitBlock, onBlock, hpending]
    rfl
  refine ⟨fun hroom => ?_, fun hfull => ?_, ?_, ?_⟩
  · rw [doneEntry_of_room hroom, hkept] at hrow
    exact ⟨hrow, hrow, hrow⟩
  · rw [doneEntry_of_full hfull] at hrow
    exact ⟨hrow, hrow, hrow⟩
  · rw [← hkept]
    exact seqEntry_commitBlock (onBlock (fun b => { b with state := 12 }) s)
  · rw [← hkept]
    exact (commitBlock_keepsStore (onBlock (fun b => { b with state := 12 }) s)).2

end Machine
end Sys2Proof

/-! PROOF. The checksum (R100, R186, R188): a Data frame with another checksum byte than its sum, and the one byte that
passes from a state of the invariant. -/

namespace Sys2Proof
namespace Machine

/-! ## A frame that faults (R186, R303) -/

/-- A block that accepts nothing ignores the bits it is fed (R114, R303). -/
theorem execAll_bits_of_not_live {s : State} (h : ¬ Live s) (cs : List Bool) :
    execAll (cs.map Instr.bitstep) s = .next s := by
  induction cs with
  | nil => rfl
  | cons c cs ih =>
    have hbit : exec (.bitstep c) s = .next s := ite_live_of_not_live _ h
    rw [List.map_cons, execAll_cons_of_next _ hbit, ih]

theorem feeds_of_not_live {s : State} (h : ¬ Live s) (bs : List Byte) : Feeds s bs s :=
  execAll_bits_of_not_live h (bitsOfBytes bs)

section
variable {s : State}

/-- The state after a checksum byte that is not the running sum (R186). -/
def integrityRaised (c : Byte) (s : State) : State :=
  { s with blk := { s.blk with ckrx := c }, fault := true, faultCode := 1 }

theorem not_live_integrityRaised (c : Byte) (s : State) : ¬ Live (integrityRaised c s) :=
  fun ⟨⟨_, hfault, _⟩, _⟩ => nomatch hfault

theorem feeds_wrongCksum (h : AtByte 10 s) {c : Byte} (hne : c ≠ s.blk.ck) : Feeds s [c] (integrityRaised c s) :=
  feeds_of_byteHandler h c (by decide) (by decide) fun hs => by
    rw [byteHandler, hs]
    exact congrArg Host.Outcome.next (needCksum_of_ne hne)

/-- The payload bytes still missing end the payload and are summed, whatever `PAYLOAD` held before (R185): what
`feeds_data` says but for the entries read back, which alone need the canonical form. -/
theorem feeds_data_summed (h : AtByte 9 s) (bs : List Byte) (hne : bs ≠ [])
    (hcount : s.blk.didx.toNat + bs.length = s.blk.len.toNat) :
    ∃ m : Memory, Feeds s bs (onBlock (fun b => { b with
      payload := m, didx := b.len, ck := b.ck + sumBytes bs, state := 10 }) s) := by
  induction bs generalizing s with
  | nil => exact absurd rfl hne
  | cons v bs ih =>
    rw [List.length_cons] at hcount
    have hlen := s.blk.len.isLt
    have hlast := didx_last_iff (show s.blk.didx.toNat < s.blk.len.toNat by omega)
    have hfirst := feeds_dataByte h v (by omega)
    obtain ⟨hl, hstate, hcnt, hshift⟩ := h
    by_cases hbs : bs = []
    · subst hbs
      rw [onBlock, storeData_of_last v (hlast.mpr hcount)] at hfirst
      exact ⟨memWrite s.blk.payload s.blk.didx.toNat v, by simpa [onBlock] using hfirst⟩
    · have hpos := List.length_pos_iff.mpr hbs
      have hsucc : (s.blk.didx + 1).toNat = s.blk.didx.toNat + 1 := by bv_omega
      rw [onBlock, storeData_of_more v (mt hlast.mp (by omega))] at hfirst
      have hnext : AtByte 9 { s with blk := { s.blk with
          payload := memWrite s.blk.payload s.blk.didx.toNat v, didx := s.blk.didx + 1, ck := s.blk.ck + v } } :=
        ⟨hl, hstate, hcnt, hshift⟩
      have hleft : (s.blk.didx + 1).toNat + bs.length = s.blk.len.toNat := by omega
      obtain ⟨m, hrest⟩ := ih hnext hbs hleft
      refine ⟨m, ?_⟩
      simp only [onBlock, sumBytes_cons, ← BitVec.add_assoc]
      exact hfirst.append hrest

/-- A Data frame up to its payload's end, from any record searching for sync: it holds the frame's sum. -/
theorem feeds_dataSummed (hl : Live s) (h0 : s.blk.state = 0) (hshift : s.blk.shift = 0) (bs : List Byte)
    (hlen : bs.length ≤ 255) :
    ∃ m : Memory, Feeds s ([0x3C, 0x01, BitVec.ofNat 8 bs.length] ++ bs) (onBlock (dataReceived bs m) s) := by
  have hn := ofNat_length_toNat hlen
  have hheader := feeds_dataHeader hl h0 hshift (BitVec.ofNat 8 bs.length)
  by_cases hbs : bs = []
  · subst hbs
    exact ⟨memClear s.blk.payload 0, hheader⟩
  · have hne : BitVec.ofNat 8 bs.length ≠ 0 := by
      intro heq
      rw [heq] at hn
      exact hbs (List.length_eq_zero_iff.mp hn.symm)
    have hat : AtByte 9 (onBlock (dataHeader (BitVec.ofNat 8 bs.length)) s) := ⟨hl, if_neg hne, rfl, rfl⟩
    obtain ⟨m, hdata⟩ := feeds_data_summed hat bs hbs ((Nat.zero_add _).trans hn.symm)
    exact ⟨m, hheader.append hdata⟩

end

/-- Settles O47: the frame up to its payload's end, the byte that raises, and a byte that is ignored. -/
theorem wrongChecksumRaisesIntegrity : Obligations.WrongChecksumRaisesIntegrity := by
  intro s bs c lead hlen hl h0 hshift hne
  obtain ⟨m, hreceived⟩ := feeds_dataSummed hl h0 hshift bs hlen
  have hraised : Feeds (onBlock (dataReceived bs m) s) [c] (integrityRaised c (onBlock (dataReceived bs m) s)) :=
    feeds_wrongCksum (s := onBlock (dataReceived bs m) s) ⟨hl, rfl, rfl, rfl⟩ hne
  have hignored := feeds_of_not_live (not_live_integrityRaised c (onBlock (dataReceived bs m) s)) [lead]
  have ⟨⟨_, _, hpending⟩, hactive⟩ := hl
  exact ⟨_, hreceived.append (hraised.append hignored), rfl, rfl, rfl, rfl, rfl, rfl, hpending, hactive⟩

/-! ## The byte that passes (R188) -/

/-- In NeedCksum a record of the invariant holds R100's sum of the whole block. -/
theorem ck_eq_fullSum_of_lawful {b : Block} (h : lawful b) (hs : b.state = 10) : b.ck = fullSum b := by
  obtain ⟨_, _, hlaw⟩ := h
  rw [stateLaw, hs] at hlaw
  obtain ⟨_, _, hck⟩ := hlaw
  exact hck

/-- Settles O59: the running sum that the byte is compared with is the whole block's. -/
theorem onlyTheRightChecksumPasses : Obligations.OnlyTheRightChecksumPasses := by
  intro s t v h hat e
  have ⟨⟨⟨_, hfault, _⟩, hactive⟩, hstate, _, _⟩ := hat
  have hck := ck_eq_fullSum_of_lawful (h.record hactive hfault) hstate
  rw [exec_stNeedCksum_of_atByte hat] at e
  cases e
  rw [← hck]
  refine ⟨fun heq => ?_, fun hne => ?_⟩
  · rw [needCksum_of_eq heq]
    exact ⟨rfl, hck, heq.trans hck, hfault⟩
  · rw [needCksum_of_ne hne]
    exact ⟨rfl, rfl⟩

end Machine
end Sys2Proof

/-! PROOF. The law of the active record through the state machine (R176 to R188): every handler, and so every bit,
keeps block type, length, index and running checksum lawful, or raises, or commits a completed record. -/

namespace Sys2Proof
namespace Machine

/-! ## What the law looks at -/

theorem lawful_of_stateLaw {b : Block} (hwf : Memory.wf b.payload) (hcnt : b.bitcnt = 0) (hlaw : stateLaw b) :
    lawful b :=
  ⟨hwf, by rw [hcnt]; decide, hlaw⟩

/-- In an aligned state the law does not look at the shift register and the bit counter. -/
theorem stateLaw_setBits {b : Block} (sh : Byte) (n : BitVec 4) (h0 : b.state ≠ 0) :
    stateLaw { b with shift := sh, bitcnt := n } ↔ stateLaw b := by
  have hne : b.state.toNat ≠ 0 := fun h => h0 (BitVec.eq_of_toNat_eq h)
  simp only [stateLaw]
  split
  case h_1 h => exact absurd h hne
  all_goals exact Iff.rfl

theorem lawful_setBits {b : Block} (sh : Byte) {n : BitVec 4} (hn : n.toNat < 8) (h0 : b.state ≠ 0) (h : lawful b) :
    lawful { b with shift := sh, bitcnt := n } := by
  obtain ⟨hwf, _, hlaw⟩ := h
  exact ⟨hwf, hn, (stateLaw_setBits sh n h0).mpr hlaw⟩

/-! ## The sums (R100) -/

/-- One more name byte is one more summand (R179). -/
theorem sumBytes_take_set (name : Vector Byte Config.nameChars) {k : Nat} (h : k < Config.nameChars) (v : Byte) :
    sumBytes ((name.set k v h).toList.take (k + 1)) = sumBytes (name.toList.take k) + v := by
  rw [toList_set_take, sumBytes_append, sumBytes_cons, sumBytes_nil, add_zero]

/-- One more payload byte is one more summand (R185). -/
theorem sumBytes_memTake_memWrite {m : Memory} (h : Memory.wf m) (k : Nat) (v : Byte) :
    sumBytes (memTake (memWrite m k v) (k + 1)) = sumBytes (memTake m k) + v := by
  rw [memTake_memWrite h.1, sumBytes_append, sumBytes_cons, sumBytes_nil, add_zero]

@[simp] theorem pushByte_low (a : BitVec 16) (v : Byte) : (pushByte a v).extractLsb' 0 8 = v :=
  BitVec.extractLsb'_append_eq_right

@[simp] theorem pushByte_high (a : BitVec 16) (v : Byte) : (pushByte a v).extractLsb' 8 8 = a.extractLsb' 0 8 :=
  BitVec.extractLsb'_append_eq_left

/-- The second byte of an address completes the sum of both (R183, R184). -/
theorem sumPair_pushByte (a : BitVec 16) (v : Byte) : sumPair (pushByte a v) = a.extractLsb' 0 8 + v := by
  rw [sumPair, pushByte_high, pushByte_low]

theorem nameSum_zero (b : Block) : nameSum b 0 = Config.typeName + Config.nameBlockLen := add_zero _

theorem fullSum_of_name {b : Block} (h : b.btype = 1) :
    fullSum b = flagSum b + sumPair b.startAddr + sumPair b.loadAddr :=
  if_pos h

theorem fullSum_of_data {b : Block} (h : b.btype = 2) :
    fullSum b = Config.typeData + b.len + sumBytes (memTake b.payload b.len.toNat) := by
  have hname : b.btype ≠ btName := by rw [h]; decide
  exact (if_neg hname).trans (if_pos h)

theorem fullSum_of_eof {b : Block} (h : b.btype = 3) : fullSum b = Config.typeEof + Config.eofBlockLen := by
  have hname : b.btype ≠ btName := by rw [h]; decide
  have hdata : b.btype ≠ btData := by rw [h]; decide
  exact (if_neg hname).trans (if_neg hdata)

theorem btype_cases (bt : BitVec 2) : bt = 0 ∨ bt = 1 ∨ bt = 2 ∨ bt = 3 := by bv_omega

theorem btype_ne_zero {bt : BitVec 2} (h : bt = 1 ∨ bt = 2 ∨ bt = 3) : bt ≠ 0 := by bv_omega

/-- Only a Name and an EndOfFile block have a length of their own (R98). -/
theorem lenDone_of_data {b : Block} (h : b.btype = 2) : lenDone b := by
  rw [lenDone, h]
  exact ⟨nofun, nofun⟩

theorem lenDone_of_name {b : Block} (h : b.btype = 1) (hlen : b.len = 13) : lenDone b := by
  rw [lenDone, h]
  exact ⟨fun _ => hlen, nofun⟩

theorem lenDone_of_eof {b : Block} (h : b.btype = 3) (hlen : b.len = 0) : lenDone b := by
  rw [lenDone, h]
  exact ⟨nofun, fun _ => hlen⟩

/-! In NeedCksum the sum is the whole block's, type by type. -/

theorem stateLaw_cksum_of_name {b : Block} (hs : b.state = 10) (ht : b.btype = 1) (hlen : b.len = 13)
    (hck : b.ck = flagSum b + sumPair b.startAddr + sumPair b.loadAddr) : stateLaw b := by
  rw [stateLaw, hs]
  exact ⟨btype_ne_zero (.inl ht), lenDone_of_name ht hlen, hck.trans (fullSum_of_name ht).symm⟩

theorem stateLaw_cksum_of_data {b : Block} (hs : b.state = 10) (ht : b.btype = 2)
    (hck : b.ck = Config.typeData + b.len + sumBytes (memTake b.payload b.len.toNat)) : stateLaw b := by
  rw [stateLaw, hs]
  exact ⟨btype_ne_zero (.inr (.inl ht)), lenDone_of_data ht, hck.trans (fullSum_of_data ht).symm⟩

theorem stateLaw_cksum_of_eof {b : Block} (hs : b.state = 10) (ht : b.btype = 3) (hlen : b.len = 0)
    (hck : b.ck = Config.typeEof + Config.eofBlockLen) : stateLaw b := by
  rw [stateLaw, hs]
  exact ⟨btype_ne_zero (.inr (.inr ht)), lenDone_of_eof ht hlen, hck.trans (fullSum_of_eof ht).symm⟩

/-! ## The handlers (R177 to R185) -/

section
variable {b : Block} (v : Byte) (hwf : Memory.wf b.payload) (hcnt : b.bitcnt = 0)
include hwf hcnt

theorem acceptType_lawful {bt : BitVec 2} (hbt : bt ≠ 0) (hv : v = typeByteOf bt) : lawful (acceptType bt v b) :=
  lawful_of_stateLaw hwf hcnt ⟨hbt, hv⟩

theorem needBlockType_lawful : lawful (needBlockType v b) := by
  unfold needBlockType
  split_ifs with h0 h1 hff
  · exact acceptType_lawful v hwf hcnt (by decide) h0
  · exact acceptType_lawful v hwf hcnt (by decide) h1
  · exact acceptType_lawful v hwf hcnt (by decide) hff
  · exact lawful_of_stateLaw hwf hcnt hcnt

variable (hlaw : stateLaw b)
include hlaw

theorem needLength_lawful (hs : b.state = 2) : lawful (needLength v b) := by
  rw [stateLaw, hs] at hlaw
  obtain ⟨htype, hck⟩ := hlaw
  by_cases hbad : b.btype = 1 ∧ v ≠ 15 ∨ b.btype = 3 ∧ v ≠ 0
  · rw [needLength_of_bad hbad]
    exact lawful_of_stateLaw hwf hcnt hcnt
  obtain h0 | h1 | h2 | h3 := btype_cases b.btype
  · exact absurd h0 htype
  · have hv : v = 15 := by simpa [h1] using hbad
    have hsum : b.ck + v = nameSum b 0 := by rw [hck, h1, hv, nameSum_zero]; rfl
    rw [needLength_of_name h1 hv]
    exact lawful_of_stateLaw hwf hcnt ⟨h1, hv, Nat.zero_lt_succ 7, hsum⟩
  · have hsum (m : Memory) : b.ck + v = Config.typeData + v + sumBytes (memTake m 0) := by
      rw [hck, h2]
      exact (add_zero _).symm
    rw [needLength_of_data v (by rw [h2]; decide) (by rw [h2]; decide)]
    refine lawful_of_stateLaw (memClear_wf _ hwf) hcnt ?_
    by_cases hv : v = 0
    · subst hv
      exact stateLaw_cksum_of_data rfl h2 (hsum _)
    · rw [if_neg hv]
      have hpos : 0 < v.toNat := Nat.pos_of_ne_zero fun h => hv (BitVec.eq_of_toNat_eq h)
      exact ⟨h2, hpos, hsum _⟩
  · have hv : v = 0 := by simpa [h3] using hbad
    have hsum : b.ck + v = Config.typeEof + Config.eofBlockLen := by rw [hck, h3, hv]; rfl
    rw [needLength_of_eof h3 hv]
    exact lawful_of_stateLaw hwf hcnt (stateLaw_cksum_of_eof rfl h3 hv hsum)

theorem nameByte_lawful (hs : b.state = 3) (hn : b.nidx.toNat < Config.nameChars) : lawful (storeName v b hn) := by
  rw [stateLaw, hs] at hlaw
  obtain ⟨htype, hlen, _, hck⟩ := hlaw
  have hsum (k : Nat) (hk : k = b.nidx.toNat + 1) : (storeName v b hn).ck = nameSum (storeName v b hn) k := by
    subst hk
    change b.ck + v = _ + sumBytes ((b.name.set b.nidx.toNat v hn).toList.take (b.nidx.toNat + 1))
    rw [sumBytes_take_set, hck, nameSum, BitVec.add_assoc]
  refine lawful_of_stateLaw hwf hcnt ?_
  by_cases hlast : b.nidx.toNat = 7
  · have hstate : (storeName v b hn).state = 4 := by rw [storeName_of_last v hn hlast]
    rw [stateLaw, hstate]
    exact ⟨htype, hlen, hsum 8 (by omega)⟩
  · have hstate : (storeName v b hn).state = 3 := by rw [storeName_of_more v hn hlast]; exact hs
    rw [nameChars_eq] at hn
    have hidx : (b.nidx + 1).toNat = b.nidx.toNat + 1 := by bv_omega
    have hmore : (b.nidx + 1).toNat < Config.nameChars := by rw [nameChars_eq]; omega
    rw [stateLaw, hstate]
    exact ⟨htype, hlen, hmore, hsum _ hidx⟩

theorem needFileType_lawful (hs : b.state = 4) : lawful (needFileType v b) := by
  rw [stateLaw, hs] at hlaw
  obtain ⟨htype, hlen, hck⟩ := hlaw
  exact lawful_of_stateLaw hwf hcnt ⟨htype, hlen, congrArg (· + v) hck⟩

theorem needAsciiFlag_lawful (hs : b.state = 5) : lawful (needAsciiFlag v b) := by
  rw [stateLaw, hs] at hlaw
  obtain ⟨htype, hlen, hck⟩ := hlaw
  exact lawful_of_stateLaw hwf hcnt ⟨htype, hlen, congrArg (· + v) hck⟩

theorem needGapFlag_lawful (hs : b.state = 6) : lawful (needGapFlag v b) := by
  rw [stateLaw, hs] at hlaw
  obtain ⟨htype, hlen, hck⟩ := hlaw
  exact lawful_of_stateLaw hwf hcnt ⟨htype, hlen, .inl ⟨rfl, congrArg (· + v) hck⟩⟩

theorem needStartAddr_lawful (hs : b.state = 7) : lawful (needStartAddr v b) := by
  rw [stateLaw, hs] at hlaw
  obtain ⟨htype, hlen, ⟨haidx, hck⟩ | ⟨haidx, hck⟩⟩ := hlaw
  · have hsum : b.ck + v = flagSum b + (pushByte b.startAddr v).extractLsb' 0 8 := by rw [hck, pushByte_low]
    rw [needStartAddr_of_first v haidx, hs]
    exact lawful_of_stateLaw hwf hcnt ⟨htype, hlen, .inr ⟨rfl, hsum⟩⟩
  · have hsum : b.ck + v = flagSum b + sumPair (pushByte b.startAddr v) := by
      rw [hck, sumPair_pushByte, BitVec.add_assoc]
    rw [needStartAddr_of_second v haidx]
    exact lawful_of_stateLaw hwf hcnt ⟨htype, .inl ⟨rfl, hlen, hsum⟩⟩

theorem needLoadAddr_lawful (hs : b.state = 8) : lawful (needLoadAddr v b) := by
  rw [stateLaw, hs] at hlaw
  obtain ⟨htype, ⟨haidx, hlen, hck⟩ | ⟨haidx, hlen, hck⟩⟩ := hlaw
  · have hsum : b.ck + v = flagSum b + sumPair b.startAddr + (pushByte b.loadAddr v).extractLsb' 0 8 := by
      rw [hck, pushByte_low]
    have hless : b.len - 1 = 14 := by rw [hlen]; rfl
    rw [needLoadAddr_of_first v haidx, hs]
    exact lawful_of_stateLaw hwf hcnt ⟨htype, .inr ⟨rfl, hless, hsum⟩⟩
  · have hsum : b.ck + v = flagSum b + sumPair b.startAddr + sumPair (pushByte b.loadAddr v) := by
      rw [hck, sumPair_pushByte, BitVec.add_assoc]
    have hless : b.len - 1 = 13 := by rw [hlen]; rfl
    rw [needLoadAddr_of_second v haidx]
    exact lawful_of_stateLaw hwf hcnt (stateLaw_cksum_of_name rfl htype hless hsum)

theorem dataByte_lawful (hs : b.state = 9) : lawful (storeData v b) := by
  rw [stateLaw, hs] at hlaw
  obtain ⟨htype, hidx, hck⟩ := hlaw
  have hlen := b.len.isLt
  have hsucc : (b.didx + 1).toNat = b.didx.toNat + 1 := by bv_omega
  have hwf' : Memory.wf (memWrite b.payload b.didx.toNat v) := memWrite_wf hwf (by rw [payloadSize]; omega)
  have hsum : b.ck + v = Config.typeData + b.len +
      sumBytes (memTake (memWrite b.payload b.didx.toNat v) (b.didx.toNat + 1)) := by
    rw [hck, sumBytes_memTake_memWrite hwf, BitVec.add_assoc]
  by_cases hlast : b.didx + 1 = b.len
  · rw [storeData_of_last v hlast]
    rw [← hsucc, hlast] at hsum
    exact lawful_of_stateLaw hwf' hcnt (stateLaw_cksum_of_data rfl htype hsum)
  · rw [storeData_of_more v hlast]
    have hmore := mt (didx_last_iff hidx).mpr hlast
    rw [← hsucc] at hsum
    have hidx' : (b.didx + 1).toNat < b.len.toNat := by omega
    rw [hs]
    exact lawful_of_stateLaw hwf' hcnt ⟨htype, hidx', hsum⟩

end

/-! ## Done (R186 to R189) -/

/-- The record that Done appends is completed: its checksum byte was received and right. -/
theorem completed_of_lawful {b : Block} (h : lawful b) (hs : b.state = 11) : completed { b with state := 12 } := by
  obtain ⟨hwf, _, hlaw⟩ := h
  rw [stateLaw, hs] at hlaw
  obtain ⟨htype, hlen, hck, hckrx⟩ := hlaw
  exact ⟨hwf, rfl, htype, hlen, hck, hckrx⟩

/-- The checksum byte that passes (R186). -/
theorem passedCksum_lawful {b : Block} (h : lawful b) (hs : b.state = 10) :
    lawful { b with ckrx := b.ck, state := 11 } := by
  obtain ⟨hwf, hcnt, hlaw⟩ := h
  rw [stateLaw, hs] at hlaw
  obtain ⟨htype, hlen, hck⟩ := hlaw
  exact ⟨hwf, hcnt, htype, hlen, hck, rfl⟩

/-! ## Bytes and bits (R172, R173, R175) -/

/-- What a step of the block on a lawful record does to record and store: what `BitEffect` says, and the law. -/
inductive LawfulEffect (s : State) : State → Prop where
  /-- The record changes and stays lawful. -/
  | record (b : Block) (h : lawful b) : LawfulEffect s { s with blk := b }
  /-- The record changes and a block fault is raised. -/
  | raised (b : Block) (c : Code) (hc : isBlockCode c = true) (hwf : Memory.wf b.payload) :
      LawfulEffect s { s with blk := b, fault := true, faultCode := c }
  /-- A completed record is committed to the store. -/
  | committed (b : Block) (hroom : s.seqLen < Config.params.seqCap) (h : completed b) :
      LawfulEffect s (commitBlock { s with blk := b })

section
variable {s : State}

theorem needCksum_lawfulEffect (v : Byte) (h : lawful s.blk) (hs : s.blk.state = 10) :
    LawfulEffect s (needCksum v s) := by
  by_cases hv : v = s.blk.ck
  · rw [needCksum_of_eq hv, hv]
    exact .record _ (passedCksum_lawful h hs)
  · rw [needCksum_of_ne hv]
    exact .raised _ 1 rfl h.1

theorem doneEntry_lawfulEffect (h : lawful s.blk) (hs : s.blk.state = 11) :
    LawfulEffect s (doneEntry Config.params s) := by
  rcases Nat.lt_or_ge s.seqLen Config.params.seqCap with hroom | hfull
  · rw [doneEntry_of_room hroom]
    exact .committed _ hroom (completed_of_lawful h hs)
  · rw [doneEntry_of_full hfull]
    exact .raised _ fcResource rfl h.1

/-- Every handler on a fresh byte keeps the law (R173). -/
theorem byteHandler_lawfulEffect {v : Byte} {t : State} (h : lawful s.blk) (hcnt : s.blk.bitcnt = 0)
    (e : byteHandler Config.params v s = .next t) : LawfulEffect s t := by
  have ⟨hwf, _, hlaw⟩ := h
  have hbounds := lawful_inBounds h
  unfold byteHandler at e
  split at e
  case h_1 => cases e; exact .record _ (needBlockType_lawful v hwf hcnt)
  case h_2 hs => cases e; exact .record _ (needLength_lawful v hwf hcnt hlaw (BitVec.eq_of_toNat_eq hs))
  case h_3 hs =>
    have hname : s.blk.state = 3 := BitVec.eq_of_toNat_eq hs
    rw [needName, dif_pos (hbounds.name hname)] at e
    cases e
    exact .record _ (nameByte_lawful v hwf hcnt hlaw hname _)
  case h_4 hs => cases e; exact .record _ (needFileType_lawful v hwf hcnt hlaw (BitVec.eq_of_toNat_eq hs))
  case h_5 hs => cases e; exact .record _ (needAsciiFlag_lawful v hwf hcnt hlaw (BitVec.eq_of_toNat_eq hs))
  case h_6 hs => cases e; exact .record _ (needGapFlag_lawful v hwf hcnt hlaw (BitVec.eq_of_toNat_eq hs))
  case h_7 hs => cases e; exact .record _ (needStartAddr_lawful v hwf hcnt hlaw (BitVec.eq_of_toNat_eq hs))
  case h_8 hs => cases e; exact .record _ (needLoadAddr_lawful v hwf hcnt hlaw (BitVec.eq_of_toNat_eq hs))
  case h_9 hs =>
    have hdata : s.blk.state = 9 := BitVec.eq_of_toNat_eq hs
    rw [needData, if_pos (hbounds.data hdata)] at e
    cases e
    exact .record _ (dataByte_lawful v hwf hcnt hlaw hdata)
  case h_10 hs => cases e; exact needCksum_lawfulEffect v h (BitVec.eq_of_toNat_eq hs)
  case h_11 hs => cases e; exact doneEntry_lawfulEffect h (BitVec.eq_of_toNat_eq hs)
  case h_12 => cases e

theorem synced_lawful {b : Block} (h : lawful b) : lawful (synced b) :=
  lawful_of_stateLaw (b := synced b) h.1 rfl trivial

/-- In NeedSyncByte the law leaves the window free. -/
theorem searching_lawful {b : Block} (h : lawful b) (h0 : b.state = 0) (w : Byte) :
    lawful { b with shift := w } := by
  obtain ⟨hwf, hcnt, hlaw⟩ := h
  rw [stateLaw, h0] at hlaw
  refine ⟨hwf, hcnt, ?_⟩
  rw [stateLaw, h0]
  exact hlaw

theorem syncCheck_lawful {b : Block} (h : lawful b) : lawful (syncCheck b) := by
  by_cases hw : b.shift = Config.syncByte
  · rw [syncCheck_of_eq hw]
    exact synced_lawful h
  · rwa [syncCheck_of_ne hw]

/-- What a step does to the rest of the state does not depend on the record it starts from. -/
theorem LawfulEffect.of_onBlock {f : Block → Block} {t : State} (h : LawfulEffect (onBlock f s) t) :
    LawfulEffect s t := by
  cases h with
  | record b hb => exact .record b hb
  | raised b c hc hwf => exact .raised b c hc hwf
  | committed b hroom hb => exact .committed b hroom hb

/-- Every bit keeps the law (R172). -/
theorem bitStep_lawfulEffect {c : Bool} {t : State} (h : lawful s.blk) (e : bitStep Config.params c s = .next t) :
    LawfulEffect s t := by
  by_cases h0 : s.blk.state = 0
  · rw [bitStep_sync h0] at e
    cases e
    exact .record _ (syncCheck_lawful (searching_lawful h h0 _))
  · have hpos : s.blk.state.toNat ≠ 0 := fun h => h0 (BitVec.eq_of_toNat_eq h)
    have hle := (lawful_inBounds h).state_le
    rw [bitStep_aligned (by omega) (by omega), countBit] at e
    split at e
    case isTrue =>
      have hfresh := lawful_setBits 0 (n := 0) (by decide) h0 h
      exact (byteHandler_lawfulEffect hfresh rfl e).of_onBlock.of_onBlock
    case isFalse hmore =>
      have hless : s.blk.bitcnt + 1 ≠ 8 := hmore
      have ⟨_, hcnt, _⟩ := h
      have hcount : (s.blk.bitcnt + 1).toNat < 8 := by bv_omega
      cases e
      exact .record _ (lawful_setBits _ hcount h0 h)

theorem deliver_lawfulEffect {c : BitClass} {t : State} (h : lawful s.blk) (e : deliver Config.params c s = .next t) :
    LawfulEffect s t := by
  cases c with
  | bit0 => exact bitStep_lawfulEffect h e
  | bit1 => exact bitStep_lawfulEffect h e
  | none => cases e; exact .record s.blk h

end

end Machine
end Sys2Proof

/-! PROOF. The host's share of the invariant (R44, R230, R236, R304): fault code, Detok call and line buffer through the
host's routines and the rows that run them. -/

namespace Sys2Proof
namespace Machine

/-! ## The host's registers (R230, R304, R236) -/

/-- What the invariant says of the host's own registers, of the registers themselves. -/
structure HostRegsLaw (hfault : Bool) (code : Code) (out : Text) (pfx : Bool) (llen : Nat) (lbuf : List Byte) :
    Prop where
  /-- `HFAULT_CODE` is a code of the host exactly while `HFAULT = 1` (R304). -/
  codes : (hfault = true → isHostCode code = true) ∧ (hfault = false → code = 0)
  /-- No Detok call is under way after a host fault (R44). -/
  call : hfault = true → out = [] ∧ pfx = false
  /-- The line buffer's fill is within its bound (R236). -/
  line : llen ≤ Config.params.lineMax ∧ llen ≤ lbuf.length

/-- The invariant's share of the host. A change of other fields keeps it as it stands. -/
abbrev HostLaw (s : State) : Prop := HostRegsLaw s.hfault s.hfaultCode s.dtOut s.dtPfx s.llen s.lbuf

theorem hostLaw_of_inv {s : State} (h : MachineInv s) : HostLaw s := ⟨h.hostCodes, h.call, h.line⟩

theorem hostLaw_of_same {s t : State} (hh : sameHost s t) (hc : sameCall s t) (h : HostLaw s) : HostLaw t := by
  obtain ⟨_, _, _, _, hlbuf, hllen, _, hfault, hcode, _⟩ := hh
  obtain ⟨hout, hpfx⟩ := hc
  rwa [HostLaw, hlbuf, hllen, hfault, hcode, hout, hpfx]

theorem raiseHost_hostLaw {c : Code} {s : State} (hc : isHostCode c = true) (h : HostLaw s) :
    HostLaw (raiseHost c s) :=
  ⟨⟨fun _ => hc, nofun⟩, fun _ => ⟨rfl, rfl⟩, h.line⟩

theorem endCall_hostLaw {s : State} (h : HostLaw s) : HostLaw (endCall s) :=
  ⟨h.codes, fun _ => ⟨rfl, rfl⟩, h.line⟩

theorem hostThen_hostLaw {f : State → State} (hf : ∀ s, HostLaw s → HostLaw (f s)) {s : State} (h : HostLaw s) :
    HostLaw (hostThen f s) := by
  unfold hostThen
  split
  · exact h
  · exact hf s h

theorem ackEvent_hostLaw {s : State} (h : HostLaw s) : HostLaw (ackEvent s) :=
  have ⟨_, hh, hc⟩ := ackEvent_blockOnly s
  hostLaw_of_same hh hc h

theorem normaliseLoop_hostLaw (n : Nat) {s : State} (h : HostLaw s) : HostLaw (normaliseLoop n s) := by
  induction n generalizing s with
  | zero => exact h
  | succ n ih =>
    unfold normaliseLoop
    split
    · exact ih h
    · exact h

theorem normalise_hostLaw {s : State} (h : HostLaw s) : HostLaw (normalise s) := normaliseLoop_hostLaw _ h

theorem checkBlockNumber_hostLaw (b : Byte) {s : State} (h : HostLaw s) : HostLaw (checkBlockNumber b s) := by
  unfold checkBlockNumber
  dsimp only
  split
  · exact h
  · exact raiseHost_hostLaw rfl h

theorem nextByte_hostLaw {s : State} (h : HostLaw s) : HostLaw (nextByte s) := by
  have hn := normalise_hostLaw h
  unfold nextByte
  dsimp only
  split
  · exact hn
  · exact raiseHost_hostLaw rfl hn

theorem lineHeader_hostLaw {s : State} (h : HostLaw s) : HostLaw (lineHeader s) := by
  have hnext {s : State} := hostThen_hostLaw (fun _ => nextByte_hostLaw) (s := s)
  have hread := hnext (hnext (hnext (nextByte_hostLaw h)))
  unfold lineHeader
  dsimp only
  refine hostThen_hostLaw (fun _ h => ?_) hread
  exact h

/-- A byte stored below `LINE_MAX` keeps the fill within the bound and inside the buffer (R236). -/
theorem storeContent_hostLaw {s : State} (v : Byte) (hless : s.llen < Config.params.lineMax) (h : HostLaw s) :
    HostLaw { s with lbuf := storeAt 0 s.lbuf s.llen v, llen := s.llen + 1 } := by
  refine ⟨h.codes, h.call, hless, ?_⟩
  change s.llen + 1 ≤ (storeAt 0 s.lbuf s.llen v).length
  rw [storeAt_length]
  exact Nat.le_max_right _ _

theorem readContentLoop_hostLaw (n : Nat) {s : State} (h : HostLaw s) :
    HostLaw (readContentLoop Config.params n s) := by
  induction n generalizing s with
  | zero => exact h
  | succ n ih =>
    have hn := nextByte_hostLaw h
    unfold readContentLoop
    dsimp only
    split
    · exact hn
    · split
      · exact raiseHost_hostLaw rfl hn
      · exact ih (storeContent_hostLaw _ (by omega) hn)

theorem readContent_hostLaw {s : State} (h : HostLaw s) : HostLaw (readContent Config.params s) := by
  have hempty : HostLaw { s with llen := 0 } := ⟨h.codes, h.call, Nat.zero_le _, Nat.zero_le _⟩
  exact readContentLoop_hostLaw _ hempty

theorem detokByte_error {p : Params} {b : Byte} {out : Text} {pfx : Bool} {c : Code}
    (e : detokByte p b out pfx = .error c) : c = fcFnRange := by
  unfold detokByte at e
  split_ifs at e
  cases e
  rfl

/-- A Detok call raises codes of the host only (R266, R267). -/
theorem detokFrom_error {p : Params} {x : List Byte} {out : Text} {pfx : Bool} {c : Code}
    (e : detokFrom p x out pfx = .error c) : isHostCode c = true := by
  induction x generalizing out pfx with
  | nil =>
    rw [detokFrom] at e
    split at e
    · cases e; rfl
    · cases e
  | cons b rest ih =>
    rw [detokFrom] at e
    split at e
    · exact ih e
    · rename_i hraise
      cases e
      rw [detokByte_error hraise]
      rfl

theorem emitLine_hostLaw (ln : BitVec 16) {s : State} (h : HostLaw s) : HostLaw (emitLine Config.params ln s) := by
  unfold emitLine
  split
  · exact endCall_hostLaw h
  · rename_i hraise
    exact raiseHost_hostLaw (detokFrom_error hraise) h

theorem lineBody_hostLaw (b : Byte) {s : State} (h : HostLaw s) : HostLaw (lineBody Config.params b s) := by
  have hheader := hostThen_hostLaw (fun _ => lineHeader_hostLaw) (checkBlockNumber_hostLaw b h)
  have hcontent := hostThen_hostLaw (fun _ => readContent_hostLaw) hheader
  exact hostThen_hostLaw (fun t => emitLine_hostLaw t.ln) hcontent

theorem lineLoop_hostLaw (n : Nat) {s : State} (h : HostLaw s) : HostLaw (lineLoop Config.params n s) := by
  induction n generalizing s with
  | zero => exact h
  | succ n ih =>
    have hn := normalise_hostLaw h
    unfold lineLoop
    dsimp only
    split
    · exact hn
    · split
      · exact hn
      · exact hostThen_hostLaw (fun _ => ih) (lineBody_hostLaw _ hn)

theorem beginProgram_hostLaw {s : State} (h : HostLaw s) : HostLaw (beginProgram s) := endCall_hostLaw h

theorem reconstruct_hostLaw {s : State} (h : HostLaw s) : HostLaw (reconstruct Config.params s) :=
  hostThen_hostLaw (fun _ => ackEvent_hostLaw) (lineLoop_hostLaw _ (beginProgram_hostLaw h))

/-- A Detokenizer unit is met while no host fault is set, and it sets no fault without ending the call (R260). -/
theorem dtUnit_hostLaw {s t : State} (h : HostLaw s) (hfault : s.hfault = false)
    (ht : t.hfault = s.hfault ∧ t.hfaultCode = s.hfaultCode ∧ t.llen = s.llen ∧ t.lbuf = s.lbuf) : HostLaw t := by
  obtain ⟨hf, hc, hn, hb⟩ := ht
  rw [HostLaw, hf, hc, hn, hb]
  exact ⟨h.codes, fun hset => absurd (hfault.symm.trans hset) nofun, h.line⟩

theorem emitUnit_hostLaw (x : Text) {s : State} (h : HostLaw s) : HostLaw (emitUnit x s) := by
  unfold emitUnit
  split
  · rename_i hmet
    exact dtUnit_hostLaw h (by simpa using (Bool.and_eq_true_iff.mp hmet).1) ⟨rfl, rfl, rfl, rfl⟩
  · exact h

/-! The rows of the host. -/

/-- Where the operation answers a next state, the host's share of the invariant holds there. -/
def KeepsHostLaw (r : Res) : Prop := ∀ t, r = .next t → HostLaw t

theorem keepsHostLaw_next {s : State} (h : HostLaw s) : KeepsHostLaw (.next s) := fun t e => by cases e; exact h

theorem keepsHostLaw_ite {c : Prop} [Decidable c] {s t : State} (ht : c → HostLaw t) (hs : HostLaw s) :
    KeepsHostLaw (.next (if c then t else s)) := by
  split
  · exact keepsHostLaw_next (ht ‹_›)
  · exact keepsHostLaw_next hs

section
variable {s : State} (h : HostLaw s)
include h

theorem whileHandling_keepsHostLaw {f : State → State} (hf : HostLaw (f s)) : KeepsHostLaw (whileHandling f s) :=
  keepsHostLaw_ite (fun _ => hf) h

theorem hostRaise_keepsHostLaw {c : Code} (hc : isHostCode c = true) : KeepsHostLaw (hostRaise c s) :=
  keepsHostLaw_ite (fun _ => raiseHost_hostLaw hc h) h

theorem execOnName_keepsHostLaw : KeepsHostLaw (execOnName s) := by
  unfold execOnName onName
  split
  · split
    · exact keepsHostLaw_next (ackEvent_hostLaw h)
    · exact fun _ e => nomatch e
  · exact keepsHostLaw_next h

theorem execDtFnpfx_keepsHostLaw : KeepsHostLaw (execDtFnpfx s) := by
  refine keepsHostLaw_ite (fun hmet => ?_) h
  exact dtUnit_hostLaw h (by simpa using (Bool.and_eq_true_iff.mp hmet).1) ⟨rfl, rfl, rfl, rfl⟩

theorem execDtFn_keepsHostLaw (m : Byte) : KeepsHostLaw (execDtFn m s) := by
  refine keepsHostLaw_ite (fun hmet => ?_) h
  split
  · exact dtUnit_hostLaw h (by simpa using (Bool.and_eq_true_iff.mp hmet).1) ⟨rfl, rfl, rfl, rfl⟩
  · exact raiseHost_hostLaw rfl h

/-- Every row of the host keeps its share of the invariant: the codes it raises are the host's where the row admits
its operand. -/
theorem exec_keepsHostLaw {i : Instr} (hi : hostSide i = true) (hwf : WellFormed i = true) :
    KeepsHostLaw (exec i s) := by
  cases i with
  | onName | evName => exact execOnName_keepsHostLaw h
  | reconstruct | evProgram => exact whileHandling_keepsHostLaw h (reconstruct_hostLaw h)
  | checkBlockNumber b => exact whileHandling_keepsHostLaw h (checkBlockNumber_hostLaw b h)
  | lineHeader => exact whileHandling_keepsHostLaw h (lineHeader_hostLaw h)
  | nextByte => exact whileHandling_keepsHostLaw h (nextByte_hostLaw h)
  | readContent => exact whileHandling_keepsHostLaw h (readContent_hostLaw h)
  | emitLine ln => exact whileHandling_keepsHostLaw h (emitLine_hostLaw ln h)
  | sentinel => exact whileHandling_keepsHostLaw h (f := sentinelTest) h
  | normalise => exact whileHandling_keepsHostLaw h (normalise_hostLaw h)
  | hostFault c => exact hostRaise_keepsHostLaw h hwf
  | fltStructBlocknum | fltStructLineOverflow | fltStructTruncated | fltDetokFnRange | fltDetokTruncPrefix =>
    exact hostRaise_keepsHostLaw h rfl
  | dtNul | dtPrint | dtOptok | dtEsc => exact keepsHostLaw_next (emitUnit_hostLaw _ h)
  | dtFnpfx => exact execDtFnpfx_keepsHostLaw h
  | dtFn m => exact execDtFn_keepsHostLaw h m
  | _ => cases hi

end

end Machine
end Sys2Proof

/-! PROOF. Every step keeps the invariant (R28, R38 to R42, R64, R188): the block's operations by the law of the
record, the host's by its share of the invariant and the inversion of `exec`. -/

namespace Sys2Proof
namespace Machine

/-! ## Changes that keep the invariant -/

section
variable {s : State}

/-- The block's share of the invariant lies in its registers, the host's in the host's. -/
theorem inv_of_sameBlock {t : State} (h : MachineInv s) (hb : sameBlock s t) (hh : HostLaw t) : MachineInv t := by
  obtain ⟨hidx, hlast, hprev, _, _, _, _, hactive, hblk, hseq, hlen, hpending, hfault, hcode, hrst⟩ := hb
  have hentry (k : Nat) : seqEntry t k = seqEntry s k := by rw [seqEntry, seqEntry, hseq]
  constructor
  case record => rw [hactive, hfault, hblk]; exact h.record
  case payload => rw [hblk]; exact h.payload
  case store => simp only [hlen, hseq, hentry]; exact h.store
  case event => simp only [hpending, hactive, hrst, hfault, hlen, hentry]; exact h.event
  case faultCodes => rw [hfault, hcode, hrst]; exact h.faultCodes
  case hostCodes => exact hh.codes
  case call => exact hh.call
  case held => rw [hrst, hactive, hlen, hidx, hlast, hprev]; exact h.held
  case cursor => rw [hidx, hlast]; exact h.cursor
  case line => exact hh.line

/-- An accepted EV_ACK clears the event and may release the store, both of which the invariant allows (R311). -/
theorem inv_acknowledged (h : MachineInv s) : MachineInv (acknowledged s) := by
  have hle : (acknowledged s).seqLen ≤ s.seqLen := by
    change (if s.outPending = 2 then 0 else s.seqLen) ≤ s.seqLen
    split <;> omega
  obtain ⟨hcap, hlen, hdone⟩ := h.store
  refine { h with
    store := ⟨hle.trans hcap, hle.trans hlen, fun k hk => hdone k (hk.trans_le hle)⟩
    event := fun hne => absurd rfl hne
    held := fun hr => ?_ }
  obtain ⟨hactive, hzero, hrest⟩ := h.held hr
  exact ⟨hactive, Nat.le_zero.mp (hzero ▸ hle), hrest⟩

theorem inv_ackEvent (h : MachineInv s) : MachineInv (ackEvent s) := by
  rcases ackEvent_cases s with e | ⟨_, _, _, e⟩ <;> rw [e]
  · exact h
  · exact inv_acknowledged h

/-- RESET_ASSERT releases the store, clears the detector and the block's fault, and ends a Detok call (R340). -/
theorem inv_resetBlock (h : MachineInv s) : MachineInv (resetBlock s) :=
  { h with
    record := nofun
    store := ⟨Nat.zero_le _, Nat.zero_le _, nofun⟩
    event := fun hne => absurd rfl hne
    faultCodes := ⟨nofun, fun _ => rfl⟩
    call := fun _ => ⟨rfl, rfl⟩
    held := fun _ => ⟨rfl, rfl, rfl, rfl, rfl⟩
    cursor := .inr ⟨rfl, rfl⟩ }

/-- RESET_DEASSERT, with the Detok call under way at an end (R341). -/
theorem inv_released (h : MachineInv s) : MachineInv (endCall { s with rst := false }) := by
  obtain ⟨hset, hclear⟩ := h.faultCodes
  refine { h with
    event := fun hne => ?_
    faultCodes := ⟨fun hf => ⟨(hset hf).1, rfl⟩, hclear⟩
    call := fun _ => ⟨rfl, rfl⟩
    held := nofun }
  obtain ⟨hactive, _, hrest⟩ := h.event hne
  exact ⟨hactive, rfl, hrest⟩

theorem inv_startRun (h : MachineInv s) : MachineInv (startRun s) :=
  { h with hostCodes := ⟨nofun, fun _ => rfl⟩, call := nofun }

theorem inv_takeInput (h : MachineInv s) (xs : List Sample) (rest : List (List Sample)) :
    MachineInv (takeInput xs rest s) :=
  { h with }

theorem inv_writeThreshold (h : MachineInv s) (reg : BitVec 2) (v : Word) : MachineInv (writeThreshold reg v s) := by
  unfold writeThreshold
  split_ifs <;> exact { h with }

theorem fresh_lawful : lawful Block.fresh := ⟨wf_nil, by decide, rfl⟩

/-- ALLOCATE makes the blank record live, which is lawful (R170). -/
theorem inv_allocate (h : MachineInv s) (ha : Accepting s) : MachineInv (allocate s) := by
  obtain ⟨hrst, _, hpending⟩ := ha
  exact { h with
    record := fun _ _ => fresh_lawful
    payload := wf_nil
    event := fun hne => absurd hpending hne
    held := fun hr => absurd (hrst.symm.trans hr) nofun }

theorem inv_withRecord (h : MachineInv s) (ha : Accepting s) : MachineInv (withRecord s) := by
  cases hact : s.active with
  | true => rwa [withRecord_of_active hact]
  | false => rw [withRecord_of_not_active hact]; exact inv_allocate h ha

section
variable (h : MachineInv s) (hl : Live s)
include h hl

/-- A step on the live record keeps the invariant: no event is pending and the block is not in reset (R189, R303). -/
theorem inv_of_lawfulEffect {t : State} (e : LawfulEffect s t) : MachineInv t := by
  have ⟨⟨hrst, hfault, hpending⟩, _⟩ := hl
  cases e with
  | record b hb =>
    exact { h with record := fun _ _ => hb, payload := hb.1 }
  | raised b c hc hwf =>
    exact { h with
      record := nofun, payload := hwf
      event := fun hne => absurd hpending hne
      faultCodes := ⟨fun _ => ⟨hc, hrst⟩, nofun⟩ }
  | committed b hroom hb =>
    have hlast : seqEntry (commitBlock { s with blk := b }) s.seqLen = b := seqEntry_commitBlock { s with blk := b }
    have hevent : eventOf (seqEntry (commitBlock { s with blk := b }) s.seqLen).btype evNone =
        eventOf b.btype s.outPending := by
      rw [hlast, hpending]
      rfl
    obtain ⟨_, _, hdone⟩ := h.store
    refine { h with
      record := nofun, payload := hb.1, store := ⟨hroom, ?_, fun k hk => ?_⟩
      event := fun _ => ⟨rfl, hrst, hfault, Nat.succ_pos _, hevent⟩
      held := fun hr => absurd (hrst.symm.trans hr) nofun }
    · rw [commitBlock_seq, commitBlock_seqLen, storeAt_length]
      exact Nat.le_max_right _ _
    · rcases Nat.lt_succ_iff_lt_or_eq.mp hk with hlt | rfl
      · rw [(commitBlock_keepsStore { s with blk := b }).2 k hlt]
        exact hdone k hlt
      · rw [hlast]
        exact hb

theorem lawful_of_inv : lawful s.blk := by
  have ⟨⟨_, hfault, _⟩, hactive⟩ := hl
  exact h.record hactive hfault

theorem inv_raiseBlock {c : Code} (hc : isBlockCode c = true) : MachineInv (raiseBlock c s) :=
  inv_of_lawfulEffect h hl (.raised s.blk c hc h.payload)

theorem inv_onBlock {f : Block → Block} (hf : lawful (f s.blk)) : MachineInv (onBlock f s) :=
  inv_of_lawfulEffect h hl (.record (f s.blk) hf)

end

/-! ## The sample step (R130) -/

section
variable (h : MachineInv s) (hl : Live s) (x : Sample) (hidx : s.idx ≠ BitVec.allOnes 32)
include h hl hidx

theorem inv_passed : MachineInv (passed x s) := by
  have hlast : s.lastX.toNat < (s.idx + 1).toNat := by
    rw [toNat_succ_of_ne_allOnes hidx]
    rcases h.cursor with hlt | ⟨_, hzero⟩
    · omega
    · rw [hzero]
      exact Nat.succ_pos _
  have ⟨⟨hrst, _⟩, _⟩ := hl
  exact { h with held := fun hr => absurd (hrst.symm.trans hr) nofun, cursor := .inl hlast }

theorem inv_crossed : MachineInv (crossed x s) := by
  have hlast : s.idx.toNat < (s.idx + 1).toNat := by
    rw [toNat_succ_of_ne_allOnes hidx]
    exact Nat.lt_succ_self _
  have ⟨⟨hrst, _⟩, _⟩ := hl
  exact { h with held := fun hr => absurd (hrst.symm.trans hr) nofun, cursor := .inl hlast }

end

/-! ## Operations -/

/-- Where the operation answers a next state, that state meets the invariant. -/
def KeepsInv (r : Res) : Prop := ∀ t, r = .next t → MachineInv t

theorem keepsInv_next (h : MachineInv s) : KeepsInv (.next s) := fun t e => by cases e; exact h

theorem keepsInv_refused (w : Refusal) : KeepsInv (.refused w) := fun _ e => nomatch e

theorem keepsInv_ite {c : Prop} [Decidable c] {a b : Res} (ha : c → KeepsInv a) (hb : KeepsInv b) :
    KeepsInv (if c then a else b) := by
  split
  · exact ha ‹_›
  · exact hb

theorem keepsInv_next_ite {c : Prop} [Decidable c] {t : State} (ht : c → MachineInv t) (h : MachineInv s) :
    KeepsInv (.next (if c then t else s)) := by
  split
  · exact keepsInv_next (ht ‹_›)
  · exact keepsInv_next h

section
variable (h : MachineInv s)
include h

theorem deliver_keepsInv (hl : Live s) (c : BitClass) : KeepsInv (deliver Config.params c s) :=
  fun _ e => inv_of_lawfulEffect h hl (deliver_lawfulEffect (lawful_of_inv h hl) e)

theorem bitStep_keepsInv (hl : Live s) (c : Bool) : KeepsInv (bitStep Config.params c s) :=
  fun _ e => inv_of_lawfulEffect h hl (bitStep_lawfulEffect (lawful_of_inv h hl) e)

theorem detect_keepsInv (hl : Live s) (b : Bool) (x : Sample) : KeepsInv (detect Config.params b x s) := by
  by_cases hidx : s.idx = BitVec.allOnes 32
  · rw [detect_of_last_index _ b x hidx]
    exact keepsInv_refused _
  by_cases hc : Crossing b x s
  · rw [detect_of_crossing _ hidx hc]
    exact deliver_keepsInv (inv_crossed h hl x hidx) (live_crossed x hl) _
  · rw [detect_of_no_crossing _ hidx hc]
    exact keepsInv_next (inv_passed h hl x hidx)

theorem samplePush_keepsInv (x : Sample) : KeepsInv (samplePush Config.params x s) := by
  by_cases ha : Accepting s
  · rw [samplePush_of_accepting _ x ha]
    exact detect_keepsInv (inv_withRecord h ha) (live_withRecord ha) _ x
  · rw [samplePush_of_not_accepting _ x ha]
    exact keepsInv_next h

theorem liveDelivery_keepsInv (c : BitClass) : KeepsInv (if live s then deliver Config.params c s else .next s) :=
  keepsInv_ite (fun hl => deliver_keepsInv h ((live_iff s).mp hl) c) (keepsInv_next h)

theorem blockRaise_keepsInv {c : Code} (hc : isBlockCode c = true) : KeepsInv (blockRaise c s) :=
  keepsInv_next_ite (fun hl => inv_raiseBlock h ((live_iff s).mp hl) hc) h

theorem illegalBit_keepsInv (c : Code) : KeepsInv (.next (illegalBit c s)) :=
  keepsInv_next_ite (fun hmet => inv_raiseBlock h ((live_and_state_iff c).mp hmet).1 rfl) h

/-- Every handler's row, met or not (R173). -/
theorem handlerRow_keepsInv {r : Code × (Byte → Instr)} (hr : r ∈ handlerRows) (v : Byte) :
    KeepsInv (exec (r.2 v) s) := by
  by_cases hat : AtByte r.1 s
  · have ⟨hl, _, hcnt, _⟩ := hat
    rw [handlerRow_of_atByte hr v hat]
    exact fun _ e => inv_of_lawfulEffect h hl (byteHandler_lawfulEffect (lawful_of_inv h hl) hcnt e)
  · rw [handlerRow_of_not_atByte hr v hat]
    exact keepsInv_next h

theorem lengthOf_keepsInv (bt : BitVec 2) (v : Byte) : KeepsInv (lengthOf bt v s) := by
  by_cases hb : s.blk.btype = bt
  · rw [lengthOf_of_btype v hb]
    exact handlerRow_keepsInv h (r := (2, .stNeedLength)) (by simp [handlerRows]) v
  · have hsame : lengthOf bt v s = .next s := if_neg hb
    rw [hsame]
    exact keepsInv_next h

/-- Every row of the block and its port. The rows of a tape byte are the handler's row of the state they name, on
their byte, and Done is NeedLeadByte's on any byte. -/
theorem exec_keepsInv_of_blockSide {i : Instr} (hi : hostSide i = false) (hwf : WellFormed i = true) :
    KeepsInv (exec i s) := by
  have row (k : Fin 11) (v : Byte) : KeepsInv (exec ((handlerRows.get k).2 v) s) :=
    handlerRow_keepsInv h (List.get_mem handlerRows k) v
  cases i with
  | nop | portReserved6 | portReserved7 | evNone | fltNone => exact keepsInv_next h
  | clsReserved | evReserved | fltReserved => exact keepsInv_refused _
  | samplePush x => exact samplePush_keepsInv h x
  | evAck => exact keepsInv_next (inv_ackEvent h)
  | cfgWrite reg v =>
    exact keepsInv_ite (fun _ => keepsInv_ite (fun _ => keepsInv_next (inv_writeThreshold h reg v))
      (keepsInv_refused _)) (keepsInv_next h)
  | resetAssert => exact keepsInv_next (inv_resetBlock h)
  | resetDeassert => exact keepsInv_next_ite (fun _ => inv_released h) h
  | crossing prev cur =>
    exact keepsInv_ite (fun hl => detect_keepsInv h ((live_iff s).mp hl) _ cur) (keepsInv_next h)
  | clsBit0 | clsBit1 | clsNone => exact liveDelivery_keepsInv h _
  | allocate =>
    refine keepsInv_next_ite (fun hmet => inv_allocate h ((accepts_iff s).mp ?_)) h
    exact (Bool.and_eq_true_iff.mp hmet).1
  | bitstep c => exact keepsInv_ite (fun hl => bitStep_keepsInv h ((live_iff s).mp hl) c) (keepsInv_next h)
  | stNeedSyncByte =>
    refine keepsInv_next_ite (fun hmet => ?_) h
    obtain ⟨hl, _⟩ := (live_and_state_iff _).mp hmet
    exact inv_onBlock h hl (syncCheck_lawful (lawful_of_inv h hl))
  | sync =>
    refine keepsInv_next_ite (fun hmet => ?_) h
    obtain ⟨hl, _⟩ := (live_and_state_iff _).mp hmet
    exact inv_onBlock h hl (synced_lawful (lawful_of_inv h hl))
  | stNeedBlockType v | typeInvalid v => exact row 0 v
  | typeName => exact row 0 Config.typeName
  | typeData => exact row 0 Config.typeData
  | typeEof => exact row 0 Config.typeEof
  | stNeedLength v => exact row 1 v
  | lenName | lenEof | lenData => exact lengthOf_keepsInv h _ _
  | stNeedName v => exact row 2 v
  | stNeedFileType v => exact row 3 v
  | stNeedAsciiFlag v => exact row 4 v
  | stNeedGapFlag v => exact row 5 v
  | stNeedStartAddr v => exact row 6 v
  | stNeedLoadAddr v => exact row 7 v
  | stNeedData v => exact row 8 v
  | stNeedCksum v | cksum v => exact row 9 v
  | stNeedLeadByte v | leadByte v => exact row 10 v
  | stDone => exact row 10 0
  | stIllegal13 | stIllegal14 | stIllegal15 => exact illegalBit_keepsInv h _
  | fltIntegrity | fltResource | fltIllegalState => exact blockRaise_keepsInv h rfl
  | blockFault c => exact blockRaise_keepsInv h hwf
  | _ => cases hi

/-- Every row of the host: the block's registers as they were, or acknowledged, and the host's own law. -/
theorem exec_keepsInv_of_hostSide {i : Instr} (hi : hostSide i = true) (hwf : WellFormed i = true) :
    KeepsInv (exec i s) := by
  intro t e
  have hhost := exec_keepsHostLaw (hostLaw_of_inv h) hi hwf t e
  rcases effect_of_hostSide (exec_effect e) hi with ⟨hblock, _⟩ | ⟨hblock, _⟩
  · exact inv_of_sameBlock h hblock hhost
  · exact inv_of_sameBlock (inv_acknowledged h) hblock hhost

/-- Every well-formed operation keeps the invariant. -/
theorem exec_keepsInv {i : Instr} (hwf : WellFormed i = true) : KeepsInv (exec i s) := by
  cases hi : hostSide i with
  | false => exact exec_keepsInv_of_blockSide h hi hwf
  | true => exact exec_keepsInv_of_hostSide h hi hwf

end

/-! ## Steps (R345, R346) -/

theorem fetch_of_queue_nil (hq : s.queue = []) : fetch s = bootOp s := by
  rw [fetch, hq]

/-- What the host takes up where no run is in progress. -/
theorem newRun_cases (s : State) :
    (∃ xs rest, newRun s = .start xs rest) ∨ newRun s = .issue .resetAssert ∨ newRun s = .tooLong ∨
      newRun s = .idle := by
  unfold newRun
  split
  · simp
  · split_ifs <;> simp

/-- What the host does next: it starts a run, issues an operation that is well-formed, or stops. -/
theorem bootOp_cases (s : State) :
    (∃ xs rest, bootOp s = .start xs rest) ∨ (∃ i, bootOp s = .issue i ∧ WellFormed i = true) ∨
      bootOp s = .tooLong ∨ bootOp s = .idle := by
  unfold bootOp
  split_ifs
  · rcases newRun_cases s with h | h | h | h
    · exact .inl h
    · exact .inr (.inl ⟨_, h, rfl⟩)
    · exact .inr (.inr (.inl h))
    · exact .inr (.inr (.inr h))
  · exact .inr (.inl ⟨_, rfl, rfl⟩)
  · exact .inr (.inl ⟨_, rfl, rfl⟩)
  · split
    · exact .inr (.inl ⟨_, rfl, rfl⟩)
    · exact .inr (.inr (.inr rfl))

end

/-- A queued unit that decodes is a well-formed operation. -/
theorem step_keepsInv_of_queue {s : State} (h : MachineInv s) {it : Item} {rest : List Item}
    (hq : s.queue = it :: rest) : KeepsInv (step s) := by
  cases hd : decode it with
  | ok i =>
    rw [step_of_queued_ok hq hd, ← popQueue_of_queue hq]
    exact exec_keepsInv (inv_popQueue h) (decode_wf hd)
  | error why =>
    rw [step_of_queued_error hq hd]
    exact keepsInv_refused _

/-- What the host of R345 does next keeps the invariant. -/
theorem step_keepsInv_of_queue_nil {s : State} (h : MachineInv s) (hq : s.queue = []) : KeepsInv (step s) := by
  rw [step, fetch_of_queue_nil hq]
  rcases bootOp_cases s with ⟨xs, rest, e⟩ | ⟨i, e, hwf⟩ | e | e <;> rw [e]
  · exact exec_keepsInv (inv_startRun (inv_takeInput h xs rest)) rfl
  · exact exec_keepsInv h hwf
  · exact keepsInv_refused _
  · exact keepsInv_next h

/-- Settles O57: the operation a step runs is well-formed, from the queue or from the host of R345. -/
theorem stepKeepsInvariant : Obligations.StepKeepsInvariant := by
  intro s t h
  cases hq : s.queue with
  | nil => exact step_keepsInv_of_queue_nil h hq t
  | cons it rest => exact step_keepsInv_of_queue h hq t

end Machine
end Sys2Proof

/-! PROOF. The virtual stream (R235, R239, R242): the bytes from the cursor on, what Normalise and NextByte leave of
them, and the sentinel test on the current block (R238, R240). -/

namespace Sys2Proof
namespace Machine

/-! ## Routines under a PROGRAM event (R230, R304) -/

theorem whileHandling_of_handling (f : State → State) {s : State} (h : Handling s) : whileHandling f s = .next (f s) :=
  congrArg _ (if_pos ((handling_iff s).mpr h))

theorem hostThen_of_running (f : State → State) {s : State} (h : s.hfault = false) : hostThen f s = f s := by
  rw [hostThen, h]
  rfl

theorem hostThen_of_hfault (f : State → State) {s : State} (h : s.hfault = true) : hostThen f s = s := if_pos h

/-! ## The stream from the cursor on (R242) -/

/-- The cursor lies in its payload or at its end. -/
abbrev Within (s : State) : Prop := s.pos ≤ (curBlock s).length

theorem flatten_drop (d : List (List Byte)) (i : Nat) :
    (d.drop i).flatten = (d[i]?).getD [] ++ (d.drop (i + 1)).flatten := by
  by_cases h : i < d.length
  · rw [List.drop_eq_getElem_cons h, List.flatten_cons, List.getElem?_eq_getElem h]
    rfl
  · simp [List.drop_eq_nil_of_le (show d.length ≤ i by omega), List.drop_eq_nil_of_le (show d.length ≤ i + 1 by omega),
      List.getElem?_eq_none (show d.length ≤ i by omega)]

/-- The bound of the host's loops counts the bytes of the stream (log 17). -/
theorem remaining_eq_length_stream {s : State} (h : Within s) : remaining s = (stream s).length := by
  have hsum : ((s.d.drop s.bi).map List.length).sum = (curBlock s).length + (s.d.drop (s.bi + 1)).flatten.length := by
    rw [← List.length_flatten, flatten_drop, List.length_append]
    rfl
  rw [remaining, hsum, stream, List.length_append, List.length_drop]
  exact Nat.sub_add_comm h

theorem stream_of_last {s : State} (h : s.d.length ≤ s.bi + 1) : stream s = (curBlock s).drop s.pos := by
  rw [stream, List.drop_eq_nil_of_le h, List.flatten_nil, List.append_nil]

/-- At the end of a payload the stream is the one from the start of the next. -/
theorem stream_of_exhausted {s : State} (h : s.pos = (curBlock s).length) :
    stream s = (s.d.drop (s.bi + 1)).flatten := by
  rw [stream, h, List.drop_length, List.nil_append]

/-- Where the cursor stands at a byte, or in the last payload, the byte there is the stream's first. -/
theorem byteAt_eq_head? {s : State} (hw : Within s) (h : s.pos = (curBlock s).length → s.d.length ≤ s.bi + 1) :
    byteAt s = (stream s).head? := by
  rcases Nat.lt_or_eq_of_le hw with hlt | heq
  · rw [byteAt, stream, List.head?_append, List.head?_drop, List.getElem?_eq_getElem hlt, Option.some_or]
  · rw [byteAt, stream_of_last (h heq), List.head?_drop]

/-! ## Normalise (R239) -/

/-- The state with its cursor moved forward, the counter up by one for each boundary crossed. -/
def moved (bi pos : Nat) (s : State) : State :=
  { s with bi := bi, pos := pos, ctr := s.ctr.map (· + BitVec.ofNat 8 (bi - s.bi)) }

theorem moved_self (s : State) : moved s.bi s.pos s = s := by
  simp [moved]

theorem moved_moved {s : State} {bi bi' : Nat} (h : s.bi ≤ bi) (h' : bi ≤ bi') (pos pos' : Nat) :
    moved bi' pos' (moved bi pos s) = moved bi' pos' s := by
  have hctr (c : Byte) :
      c + BitVec.ofNat 8 (bi - s.bi) + BitVec.ofNat 8 (bi' - bi) = c + BitVec.ofNat 8 (bi' - s.bi) := by
    rw [BitVec.add_assoc, ← BitVec.ofNat_add, show bi - s.bi + (bi' - bi) = bi' - s.bi by omega]
  simp [moved, Function.comp_def, hctr]

/-- A cursor at which Normalise may stop from `s`: no byte is passed, and the payload it stands in has a byte left or
is the last. -/
structure Skips (s : State) (bi pos : Nat) : Prop where
  bi_le : s.bi ≤ bi
  bi_lt : bi = s.bi ∨ bi < s.d.length
  bytes : stream (moved bi pos s) = stream s
  within : Within (moved bi pos s)
  last : pos = (curBlock (moved bi pos s)).length → s.d.length ≤ bi + 1
  stays : bi = s.bi → pos = s.pos

theorem skips_self {s : State} (hw : Within s) (h : s.pos = (curBlock s).length → s.d.length ≤ s.bi + 1) :
    Skips s s.bi s.pos := by
  constructor
  case bi_le => exact Nat.le_refl _
  case bi_lt => exact .inl rfl
  case bytes => rw [moved_self]
  case within => rwa [moved_self]
  case last => rwa [moved_self]
  case stays => exact fun _ => rfl

/-- One boundary, and then the rest of the way. -/
theorem skips_of_exhausted {s : State} {bi pos : Nat} (hbi : s.bi + 1 < s.d.length)
    (hpos : s.pos = (curBlock s).length) (h : Skips (moved (s.bi + 1) 0 s) bi pos) : Skips s bi pos := by
  have hle : s.bi + 1 ≤ bi := h.bi_le
  have hmoved : moved bi pos (moved (s.bi + 1) 0 s) = moved bi pos s := moved_moved (Nat.le_succ _) hle _ _
  have hnext : stream (moved (s.bi + 1) 0 s) = stream s := by
    rw [stream_of_exhausted hpos, flatten_drop]
    rfl
  constructor
  case bi_le => omega
  case bi_lt => exact .inr (h.bi_lt.elim (fun e => e ▸ hbi) id)
  case bytes => rw [← hmoved, h.bytes, hnext]
  case within => exact hmoved ▸ h.within
  case last => exact hmoved ▸ h.last
  case stays => omega

theorem normaliseLoop_of_exhausted (n : Nat) {s : State} (hbi : s.bi + 1 < s.d.length)
    (hpos : s.pos = (curBlock s).length) : normaliseLoop (n + 1) s = normaliseLoop n (moved (s.bi + 1) 0 s) := by
  rw [normaliseLoop, if_pos ⟨hbi, hpos⟩]
  simp [moved]

theorem normaliseLoop_of_not_exhausted (n : Nat) {s : State}
    (h : ¬ (s.bi + 1 < s.d.length ∧ s.pos = (curBlock s).length)) : normaliseLoop n s = s := by
  cases n with
  | zero => rfl
  | succ n => rw [normaliseLoop, if_neg h]

/-- Passes that cover the payloads past the cursor bring it to where Normalise may stop. -/
theorem normaliseLoop_skips (n : Nat) {s : State} (hw : Within s) (hn : s.d.length ≤ s.bi + 1 + n) :
    ∃ bi pos, normaliseLoop n s = moved bi pos s ∧ Skips s bi pos := by
  induction n generalizing s with
  | zero => exact ⟨s.bi, s.pos, (moved_self s).symm, skips_self hw fun _ => hn⟩
  | succ n ih =>
    by_cases h : s.bi + 1 < s.d.length ∧ s.pos = (curBlock s).length
    · obtain ⟨hbi, hpos⟩ := h
      have hn' : s.d.length ≤ s.bi + 1 + 1 + n := by omega
      obtain ⟨bi, pos, e, hskip⟩ := ih (s := moved (s.bi + 1) 0 s) (Nat.zero_le _) hn'
      have hle : s.bi + 1 ≤ bi := hskip.bi_le
      rw [normaliseLoop_of_exhausted n hbi hpos, e, moved_moved (Nat.le_succ _) hle]
      exact ⟨bi, pos, rfl, skips_of_exhausted hbi hpos hskip⟩
    · rw [normaliseLoop_of_not_exhausted _ h]
      exact ⟨s.bi, s.pos, (moved_self s).symm, skips_self hw fun hpos => by omega⟩

theorem normalise_skips {s : State} (hw : Within s) : ∃ bi pos, normalise s = moved bi pos s ∧ Skips s bi pos :=
  normaliseLoop_skips _ hw (by omega)

theorem normalise_of_last {s : State} (h : s.d.length ≤ s.bi + 1) : normalise s = s :=
  normaliseLoop_of_not_exhausted _ (by omega)

theorem stream_normalise {s : State} (hw : Within s) : stream (normalise s) = stream s := by
  obtain ⟨bi, pos, e, h⟩ := normalise_skips hw
  rw [e, h.bytes]

theorem within_normalise {s : State} (hw : Within s) : Within (normalise s) := by
  obtain ⟨bi, pos, e, h⟩ := normalise_skips hw
  rw [e]
  exact h.within

/-- After Normalise the byte at the cursor is the next of the stream, and there is none only where the stream ends. -/
theorem byteAt_normalise {s : State} (hw : Within s) : byteAt (normalise s) = (stream s).head? := by
  obtain ⟨bi, pos, e, h⟩ := normalise_skips hw
  rw [e, byteAt_eq_head? h.within h.last, h.bytes]

/-- Settles O36: the loop of Normalise, whose passes cover every payload. -/
theorem normaliseSkipsExhaustedBlocks : Obligations.NormaliseSkipsExhaustedBlocks := by
  intro s hh hw
  obtain ⟨bi, pos, e, h⟩ := normalise_skips hw
  exact ⟨bi, pos, (whileHandling_of_handling _ hh).trans (congrArg _ e), h.bi_le, h.bytes, h.within, h.last, h.stays⟩

/-! What Normalise and NextByte leave as it is, whatever the cursor. -/

theorem normaliseLoop_frame (n : Nat) (s : State) :
    ∃ bi pos ctr, normaliseLoop n s = { s with bi := bi, pos := pos, ctr := ctr } := by
  induction n generalizing s with
  | zero => exact ⟨_, _, _, rfl⟩
  | succ n ih =>
    rw [normaliseLoop]
    split
    · exact ih _
    · exact ⟨_, _, _, rfl⟩

/-- NextByte writes the cursor, the counter and the returned byte, and raises STRUCT_TRUNCATED at most. -/
theorem nextByte_frame (s : State) :
    ∃ bi pos ctr, (∃ v, nextByte s = { s with bi := bi, pos := pos, ctr := ctr, ret := v }) ∨
      nextByte s = raiseHost fcTruncated { s with bi := bi, pos := pos, ctr := ctr } := by
  obtain ⟨bi, pos, ctr, e⟩ := normaliseLoop_frame s.d.length s
  unfold nextByte normalise
  rw [e]
  dsimp only
  split
  · exact ⟨bi, _, ctr, .inl ⟨_, rfl⟩⟩
  · exact ⟨bi, pos, ctr, .inr rfl⟩

@[simp] theorem normalise_text (s : State) : (normalise s).text = s.text := by
  obtain ⟨_, _, _, e⟩ := normaliseLoop_frame s.d.length s
  rw [normalise, e]

@[simp] theorem normalise_hfault (s : State) : (normalise s).hfault = s.hfault := by
  obtain ⟨_, _, _, e⟩ := normaliseLoop_frame s.d.length s
  rw [normalise, e]

@[simp] theorem nextByte_text (s : State) : (nextByte s).text = s.text := by
  obtain ⟨_, _, _, ⟨_, e⟩ | e⟩ := nextByte_frame s <;> rw [e]; rfl

@[simp] theorem nextByte_ln (s : State) : (nextByte s).ln = s.ln := by
  obtain ⟨_, _, _, ⟨_, e⟩ | e⟩ := nextByte_frame s <;> rw [e]; rfl

@[simp] theorem nextByte_lbuf (s : State) : (nextByte s).lbuf = s.lbuf := by
  obtain ⟨_, _, _, ⟨_, e⟩ | e⟩ := nextByte_frame s <;> rw [e]; rfl

@[simp] theorem nextByte_llen (s : State) : (nextByte s).llen = s.llen := by
  obtain ⟨_, _, _, ⟨_, e⟩ | e⟩ := nextByte_frame s <;> rw [e]; rfl

/-! ## NextByte (R235) -/

/-- The state after the byte `v` at the cursor `bi`, `pos` is read. -/
def taken (bi pos : Nat) (v : Byte) (s : State) : State := { moved bi (pos + 1) s with ret := v }

theorem nextByte_of_cons {s : State} {v : Byte} {rest : List Byte} (hw : Within s) (hs : stream s = v :: rest) :
    ∃ bi pos, nextByte s = taken bi pos v s ∧ Skips s bi pos ∧ byteAt (moved bi pos s) = some v := by
  obtain ⟨bi, pos, e, hskip⟩ := normalise_skips hw
  have hbyte : byteAt (moved bi pos s) = some v := by
    rw [← e, byteAt_normalise hw, hs, List.head?_cons]
  refine ⟨bi, pos, ?_, hskip, hbyte⟩
  rw [nextByte, e, hbyte]
  rfl

theorem nextByte_of_nil {s : State} (hw : Within s) (hs : stream s = []) :
    nextByte s = raiseHost fcTruncated (normalise s) := by
  have hbyte : byteAt (normalise s) = none := by
    rw [byteAt_normalise hw, hs, List.head?_nil]
  rw [nextByte, hbyte]

theorem within_taken {s : State} {bi pos : Nat} {v : Byte} (h : byteAt (moved bi pos s) = some v) :
    Within (taken bi pos v s) := by
  obtain ⟨hlt, _⟩ := List.getElem?_eq_some_iff.mp h
  exact hlt

/-- The byte at the cursor stands before what is left once it is taken. -/
theorem stream_moved_eq_cons {s : State} {bi pos : Nat} {v : Byte} (h : byteAt (moved bi pos s) = some v) :
    stream (moved bi pos s) = v :: stream (taken bi pos v s) := by
  obtain ⟨hlt, hv⟩ := List.getElem?_eq_some_iff.mp h
  have hdrop : (curBlock (moved bi pos s)).drop pos = v :: (curBlock (moved bi pos s)).drop (pos + 1) := by
    rw [← hv]
    exact List.drop_eq_getElem_cons hlt
  exact congrArg (· ++ (s.d.drop (bi + 1)).flatten) hdrop

/-- Settles O37: NextByte is Normalise and then the byte at the cursor. -/
theorem nextByteReadsVirtualStream : Obligations.NextByteReadsVirtualStream := by
  intro s hh hw
  have hexec : exec .nextByte s = .next (nextByte s) := whileHandling_of_handling _ hh
  constructor
  · intro v rest hs
    obtain ⟨bi, pos, e, hskip, hbyte⟩ := nextByte_of_cons hw hs
    have hcons := stream_moved_eq_cons hbyte
    rw [hskip.bytes, hs] at hcons
    exact ⟨bi, pos + 1, hexec.trans (congrArg _ e), hskip.bi_le, (List.cons_inj_right v).mp hcons.symm,
      within_taken hbyte⟩
  · intro hs
    have e := nextByte_of_nil hw hs
    refine ⟨_, hexec, ?_, ?_, nextByte_text s⟩ <;> rw [e] <;> rfl

/-! ## The sentinel (R238, R240) -/

theorem eq_three_zeros_iff (l : List Byte) :
    l = [0, 0, 0] ↔ l.length = 3 ∧ ∀ k, k < 3 → l[k]? = some 0 := by
  constructor
  · rintro rfl
    exact ⟨rfl, by decide⟩
  · rintro ⟨hlen, hzero⟩
    refine List.ext_getElem? fun k => ?_
    by_cases hk : k < 3
    · rw [hzero k hk]
      interval_cases k <;> rfl
    · rw [List.getElem?_eq_none (by omega), List.getElem?_eq_none (by simpa using hk)]

/-- Settles O41: the test compares what is left of the current payload, and reads nothing of a later one. -/
theorem sentinelLooksAtCurrentBlock : Obligations.SentinelLooksAtCurrentBlock := by
  intro s hh hw
  have hlen : ((curBlock s).drop s.pos).length = 3 ↔ (curBlock s).length = s.pos + 3 := by
    rw [List.length_drop]
    omega
  refine ⟨atSentinel s, whileHandling_of_handling _ hh, ?_⟩
  simp only [atSentinel, decide_eq_true_eq, eq_three_zeros_iff, hlen, List.getElem?_drop]

end Machine
end Sys2Proof

/-! PROOF. The parts of a line (R233, R234, R236, R237): the block-number check, the line header, the content up to its
terminator, and the printed line. -/

namespace Sys2Proof
namespace Machine

/-! ## Bytes read off the stream (R235) -/

/-- `t` follows from `s` by reading the bytes `bs`, without a raise. -/
structure Reads (s : State) (bs : List Byte) (t : State) : Prop where
  bytes : stream s = bs ++ stream t
  within : Within t
  d : t.d = s.d
  hfault : t.hfault = s.hfault
  bi_le : s.bi ≤ t.bi
  bi_lt : t.bi = s.bi ∨ t.bi < s.d.length
  ctr : t.bi = s.bi → t.ctr = s.ctr

theorem Reads.trans {s t u : State} {xs ys : List Byte} (h : Reads s xs t) (h' : Reads t ys u) :
    Reads s (xs ++ ys) u := by
  have hle := h.bi_le
  have hle' := h'.bi_le
  constructor
  case bytes => rw [h.bytes, h'.bytes, List.append_assoc]
  case within => exact h'.within
  case d => rw [h'.d, h.d]
  case hfault => rw [h'.hfault, h.hfault]
  case bi_le => omega
  case bi_lt =>
    rcases h'.bi_lt with e | hlt
    · rw [e]
      exact h.bi_lt
    · exact .inr (h.d ▸ hlt)
  case ctr =>
    intro e
    rw [h'.ctr (by omega), h.ctr (by omega)]

/-- What is left once a known start of the stream is read. -/
theorem Reads.stream_eq {s t : State} {bs rest : List Byte} (h : Reads s bs t) (hs : stream s = bs ++ rest) :
    stream t = rest :=
  List.append_cancel_left (h.bytes.symm.trans hs)

theorem nextByte_reads {s : State} {v : Byte} {rest : List Byte} (hw : Within s) (hs : stream s = v :: rest) :
    Reads s [v] (nextByte s) ∧ (nextByte s).ret = v := by
  obtain ⟨bi, pos, e, hskip, hbyte⟩ := nextByte_of_cons hw hs
  rw [e]
  refine ⟨⟨?_, within_taken hbyte, rfl, rfl, hskip.bi_le, hskip.bi_lt, fun hbi => ?_⟩, rfl⟩
  · rw [← hskip.bytes, stream_moved_eq_cons hbyte]
    rfl
  · have hsame : bi = s.bi := hbi
    simp [taken, moved, hsame]

/-! ## Outcomes of a routine (R304) -/

/-- The routine has raised one of the codes `C`, or has left fewer than `n` bytes of the stream. -/
def ReadOutcome (C : Code → Prop) (n : Nat) (t : State) : Prop :=
  t.hfault = true ∧ C t.hfaultCode ∨ t.hfault = false ∧ Within t ∧ (stream t).length < n

theorem ReadOutcome.mono {C C' : Code → Prop} {n n' : Nat} {t : State} (hC : ∀ c, C c → C' c) (hn : n ≤ n')
    (h : ReadOutcome C n t) : ReadOutcome C' n' t :=
  h.imp (fun ⟨hf, hc⟩ => ⟨hf, hC _ hc⟩) fun ⟨hf, hw, hlen⟩ => ⟨hf, hw, hlen.trans_le hn⟩

theorem hostThen_outcome {C : Code → Prop} {n m : Nat} {f : State → State} {t : State}
    (hf : ∀ u, u.hfault = false → Within u → (stream u).length < n → ReadOutcome C m (f u))
    (h : ReadOutcome C n t) : ReadOutcome C m (hostThen f t) := by
  rcases h with ⟨hfault, hc⟩ | ⟨hfault, hw, hlen⟩
  · rw [hostThen_of_hfault f hfault]
    exact .inl ⟨hfault, hc⟩
  · rw [hostThen_of_running f hfault]
    exact hf t hfault hw hlen

/-- The host's codes are the only ones a routine of RECONSTRUCT raises (R304). -/
abbrev HostOutcome : Nat → State → Prop := ReadOutcome fun c => isHostCode c = true

theorem hostCode_of_truncated (c : Code) (h : c = fcTruncated) : isHostCode c = true := by
  rw [h]
  rfl

/-- NextByte takes one byte, or finds none (R235). -/
theorem nextByte_outcome {n : Nat} {s : State} (hf : s.hfault = false) (hw : Within s)
    (hlen : (stream s).length < n + 1) : ReadOutcome (· = fcTruncated) n (nextByte s) := by
  cases hs : stream s with
  | nil =>
    rw [nextByte_of_nil hw hs]
    exact .inl ⟨rfl, rfl⟩
  | cons v rest =>
    obtain ⟨hread, _⟩ := nextByte_reads hw hs
    refine .inr ⟨hread.hfault.trans hf, hread.within, ?_⟩
    rw [hread.stream_eq hs]
    rw [hs, List.length_cons] at hlen
    omega

/-! ## The block number (R233) -/

theorem checkBlockNumber_of_pass {b : Byte} {s : State} (h : b = s.ctr.getD b ∨ b = s.ctr.getD b + 1) :
    checkBlockNumber b s = { s with ctr := some (s.ctr.getD b) } := if_pos h

theorem checkBlockNumber_of_fail {b : Byte} {s : State} (h : ¬ (b = s.ctr.getD b ∨ b = s.ctr.getD b + 1)) :
    checkBlockNumber b s = raiseHost fcBlocknum { s with ctr := some (s.ctr.getD b) } := if_neg h

/-- Settles O35: the counter is the first byte where it is unset, and is written only then. -/
theorem blockNumberIsChecked : Obligations.BlockNumberIsChecked := by
  intro s b hh
  have hexec : exec (.checkBlockNumber b) s = .next (checkBlockNumber b s) := whileHandling_of_handling _ hh
  have hkeep {c : Byte} (hc : s.ctr = some c) : { s with ctr := some (s.ctr.getD b) } = s := by
    rw [hc, Option.getD_some, ← hc]
  rw [hexec]
  refine ⟨fun hc => ?_, fun c hc hb => ?_, fun c hc hb hb' => ⟨[], false, ?_⟩⟩
  · rw [checkBlockNumber_of_pass (.inl (by rw [hc]; rfl)), hc]
    rfl
  · rw [checkBlockNumber_of_pass (by rwa [hc]), hkeep hc]
  · rw [checkBlockNumber_of_fail (by rw [hc]; exact not_or.mpr ⟨hb, hb'⟩), hkeep hc]
    rfl

@[simp] theorem checkBlockNumber_text (b : Byte) (s : State) : (checkBlockNumber b s).text = s.text := by
  unfold checkBlockNumber
  dsimp only
  split <;> rfl

theorem checkBlockNumber_outcome {n : Nat} (b : Byte) {s : State} (hf : s.hfault = false) (hw : Within s)
    (hlen : (stream s).length < n) : HostOutcome n (checkBlockNumber b s) := by
  by_cases h : b = s.ctr.getD b ∨ b = s.ctr.getD b + 1
  · rw [checkBlockNumber_of_pass h]
    exact .inr ⟨hf, hw, hlen⟩
  · rw [checkBlockNumber_of_fail h]
    exact .inl ⟨rfl, rfl⟩

/-! ## The line header (R234) -/

theorem hostThen_text {f : State → State} (h : ∀ s, (f s).text = s.text) (s : State) :
    (hostThen f s).text = s.text := by
  unfold hostThen
  split
  · rfl
  · exact h s

@[simp] theorem lineHeader_text (s : State) : (lineHeader s).text = s.text := by
  unfold lineHeader
  dsimp only
  exact (hostThen_text (by exact fun _ => rfl) _).trans (by simp only [hostThen_text nextByte_text, nextByte_text])

/-- The line number as the header leaves it. -/
def numbered (ln : BitVec 16) (s : State) : State := { s with ln := ln }

theorem Reads.numbered {s t : State} {bs : List Byte} (ln : BitVec 16) (h : Reads s bs t) :
    Reads s bs (numbered ln t) :=
  ⟨h.bytes, h.within, h.d, h.hfault, h.bi_le, h.bi_lt, h.ctr⟩

theorem lineHeader_of_four {s : State} {a b hi lo : Byte} {rest : List Byte} (hf : s.hfault = false) (hw : Within s)
    (hs : stream s = a :: b :: hi :: lo :: rest) :
    Reads s [a, b, hi, lo] (lineHeader s) ∧ (lineHeader s).ln = bigEndian hi lo := by
  obtain ⟨r1, _⟩ := nextByte_reads hw hs
  obtain ⟨r2, _⟩ := nextByte_reads r1.within (r1.stream_eq hs)
  have r12 := r1.trans r2
  obtain ⟨r3, e3⟩ := nextByte_reads r12.within (r12.stream_eq hs)
  have r13 := r12.trans r3
  obtain ⟨r4, e4⟩ := nextByte_reads r13.within (r13.stream_eq hs)
  have r14 := r13.trans r4
  have e : lineHeader s = numbered (bigEndian hi lo) (nextByte (nextByte (nextByte (nextByte s)))) := by
    rw [← e3, ← e4, lineHeader, hostThen_of_running _ (r1.hfault.trans hf), hostThen_of_running _ (r12.hfault.trans hf),
      hostThen_of_running _ (r13.hfault.trans hf), hostThen_of_running _ (r14.hfault.trans hf)]
    rfl
  rw [e]
  exact ⟨r14.numbered _, rfl⟩

/-- The header takes four bytes, or the stream ends in it. -/
theorem lineHeader_outcome {n : Nat} {s : State} (hf : s.hfault = false) (hw : Within s)
    (hlen : (stream s).length < n + 4) : ReadOutcome (· = fcTruncated) n (lineHeader s) := by
  have hnext {m : Nat} {t : State} : ReadOutcome (· = fcTruncated) (m + 1) t →
      ReadOutcome (· = fcTruncated) m (hostThen nextByte t) :=
    hostThen_outcome fun _ => nextByte_outcome
  have hread := hnext (hnext (hnext (nextByte_outcome (n := n + 3) hf hw hlen)))
  refine hostThen_outcome (fun u hf hw hlen => ?_) hread
  exact .inr ⟨hf, hw, hlen⟩

/-- Settles O38: four times NextByte, each where the one before it has not raised. -/
theorem lineHeaderFormsLineNumber : Obligations.LineHeaderFormsLineNumber := by
  intro s hh hw
  have hexec : exec .lineHeader s = .next (lineHeader s) := whileHandling_of_handling _ hh
  constructor
  · intro a b hi lo rest hs
    obtain ⟨hread, hln⟩ := lineHeader_of_four hh.2 hw hs
    refine ⟨_, hexec, hread.hfault.trans hh.2, ?_, hread.stream_eq hs, hread.within, hread.d, lineHeader_text s⟩
    rw [hln, bigEndian_toNat]
  · intro hlen
    rcases lineHeader_outcome (n := 0) hh.2 hw hlen with ⟨hf, hc⟩ | ⟨_, _, hlt⟩
    · exact ⟨_, hexec, hf, hc⟩
    · exact absurd hlt (Nat.not_lt_zero _)

/-! ## The content (R236) -/

@[simp] theorem readContentLoop_text (p : Params) (n : Nat) (s : State) : (readContentLoop p n s).text = s.text := by
  induction n generalizing s with
  | zero => rfl
  | succ n ih =>
    unfold readContentLoop
    dsimp only
    split
    · exact nextByte_text s
    · split
      · exact nextByte_text s
      · exact (ih _).trans (nextByte_text s)

@[simp] theorem readContent_text (p : Params) (s : State) : (readContent p s).text = s.text :=
  readContentLoop_text p _ _

/-- A content byte kept in the line buffer. -/
def stored (v : Byte) (s : State) : State := { s with lbuf := storeAt 0 s.lbuf s.llen v, llen := s.llen + 1 }

theorem lineContent_stored {s : State} (v : Byte) (h : s.llen ≤ s.lbuf.length) :
    lineContent (stored v s) = lineContent s ++ [v] :=
  storeAt_take 0 v s.lbuf h

theorem Reads.stored {s t : State} {bs : List Byte} (v : Byte) (h : Reads s bs t) : Reads s bs (stored v t) :=
  ⟨h.bytes, h.within, h.d, h.hfault, h.bi_le, h.bi_lt, h.ctr⟩

section
variable {p : Params} {s : State} (hw : Within s)
include hw

/-- The pass that takes the terminator (R236). -/
theorem readContentLoop_of_terminator {rest : List Byte} (n : Nat) (hs : stream s = 0 :: rest) :
    readContentLoop p (n + 1) s = nextByte s := by
  obtain ⟨_, hret⟩ := nextByte_reads hw hs
  rw [readContentLoop, if_pos (.inr hret)]

/-- The pass that finds the stream at its end (R235). -/
theorem readContentLoop_of_nil (n : Nat) (hs : stream s = []) :
    readContentLoop p (n + 1) s = raiseHost fcTruncated (normalise s) := by
  have e := nextByte_of_nil hw hs
  rw [readContentLoop, e, if_pos (.inl rfl)]

variable (hf : s.hfault = false)
include hf

/-- A pass on a byte other than the terminator (R236). -/
theorem readContentLoop_of_byte {v : Byte} {rest : List Byte} (n : Nat) (hs : stream s = v :: rest) (hv : 0 ≠ v) :
    readContentLoop p (n + 1) s =
      if p.lineMax ≤ s.llen then raiseHost fcLineOverflow (nextByte s)
      else readContentLoop p n (stored v (nextByte s)) := by
  obtain ⟨hread, hret⟩ := nextByte_reads hw hs
  have hgo : ¬ ((nextByte s).hfault = true ∨ (nextByte s).ret = 0) := by
    rw [hread.hfault, hf, hret]
    exact not_or.mpr ⟨Bool.false_ne_true, hv.symm⟩
  rw [readContentLoop, if_neg hgo, nextByte_llen, stored, nextByte_llen, hret]

end

section
variable {p : Params} {content : List Byte}

/-- The loop keeps content that fits, and stops after its terminator (R236). -/
theorem readContentLoop_of_terminated {rest : List Byte} {n : Nat} {s : State} (hf : s.hfault = false)
    (hw : Within s) (h0 : (0 : Byte) ∉ content) (hmax : s.llen + content.length ≤ p.lineMax)
    (hbuf : s.llen ≤ s.lbuf.length) (hs : stream s = content ++ 0 :: rest) (hn : content.length < n) :
    Reads s (content ++ [0]) (readContentLoop p n s) ∧
      lineContent (readContentLoop p n s) = lineContent s ++ content ∧ (readContentLoop p n s).ln = s.ln := by
  induction content generalizing s n with
  | nil =>
    obtain ⟨n, rfl⟩ := Nat.exists_eq_add_one.mpr hn
    obtain ⟨hread, _⟩ := nextByte_reads hw hs
    rw [readContentLoop_of_terminator hw n hs]
    exact ⟨hread, by simp [lineContent], nextByte_ln s⟩
  | cons v content ih =>
    rw [List.length_cons] at hmax hn
    obtain ⟨n, rfl⟩ := Nat.exists_eq_add_one.mpr (Nat.zero_lt_of_lt hn)
    obtain ⟨hv, h0⟩ := List.ne_and_not_mem_of_not_mem_cons h0
    have hread := (nextByte_reads hw hs).1.stored v
    have hbuf' : (nextByte s).llen ≤ (nextByte s).lbuf.length := by rwa [nextByte_llen, nextByte_lbuf]
    have hllen : (stored v (nextByte s)).llen = s.llen + 1 := congrArg (· + 1) (nextByte_llen s)
    have hlbuf : (stored v (nextByte s)).llen ≤ (stored v (nextByte s)).lbuf.length :=
      (Nat.le_max_right _ _).trans_eq (storeAt_length 0 v _ _).symm
    rw [readContentLoop_of_byte hw hf n hs hv, if_neg (by omega)]
    obtain ⟨hrest, hline, hln⟩ := ih (n := n) (hread.hfault.trans hf) hread.within h0 (by omega) hlbuf
      (hread.stream_eq hs) (by omega)
    refine ⟨hread.trans hrest, ?_, hln.trans (nextByte_ln s)⟩
    rw [hline, lineContent_stored v hbuf', lineContent, nextByte_llen, nextByte_lbuf, List.append_assoc]
    rfl

/-- One content byte more than `LINE_MAX` raises STRUCT_LINE_OVERFLOW (R236). -/
theorem readContentLoop_of_long {rest : List Byte} {n : Nat} {s : State} (hf : s.hfault = false) (hw : Within s)
    (h0 : (0 : Byte) ∉ content) (hllen : s.llen ≤ p.lineMax) (hmax : s.llen + content.length = p.lineMax + 1)
    (hs : stream s = content ++ rest) (hn : content.length ≤ n) :
    (readContentLoop p n s).hfault = true ∧ (readContentLoop p n s).hfaultCode = fcLineOverflow := by
  induction content generalizing s n with
  | nil =>
    rw [List.length_nil] at hmax
    omega
  | cons v content ih =>
    rw [List.length_cons] at hmax hn
    obtain ⟨n, rfl⟩ := Nat.exists_eq_add_one.mpr (Nat.zero_lt_of_lt hn)
    obtain ⟨hv, h0⟩ := List.ne_and_not_mem_of_not_mem_cons h0
    have hread := (nextByte_reads hw hs).1.stored v
    have hnext : (stored v (nextByte s)).llen = s.llen + 1 := congrArg (· + 1) (nextByte_llen s)
    rw [readContentLoop_of_byte hw hf n hs hv]
    split
    · exact ⟨rfl, rfl⟩
    · exact ih (hread.hfault.trans hf) hread.within h0 (by omega) (by omega) (hread.stream_eq hs) (by omega)

/-- A stream that ends before the terminator raises STRUCT_TRUNCATED (R235). -/
theorem readContentLoop_of_short {n : Nat} {s : State} (hf : s.hfault = false) (hw : Within s)
    (h0 : (0 : Byte) ∉ content) (hmax : s.llen + content.length ≤ p.lineMax) (hs : stream s = content)
    (hn : content.length < n) :
    (readContentLoop p n s).hfault = true ∧ (readContentLoop p n s).hfaultCode = fcTruncated := by
  induction content generalizing s n with
  | nil =>
    obtain ⟨n, rfl⟩ := Nat.exists_eq_add_one.mpr hn
    rw [readContentLoop_of_nil hw n hs]
    exact ⟨rfl, rfl⟩
  | cons v content ih =>
    rw [List.length_cons] at hmax hn
    obtain ⟨n, rfl⟩ := Nat.exists_eq_add_one.mpr (Nat.zero_lt_of_lt hn)
    obtain ⟨hv, h0⟩ := List.ne_and_not_mem_of_not_mem_cons h0
    have hread := (nextByte_reads hw hs).1.stored v
    have hnext : (stored v (nextByte s)).llen = s.llen + 1 := congrArg (· + 1) (nextByte_llen s)
    rw [readContentLoop_of_byte hw hf n hs hv, if_neg (by omega)]
    exact ih (hread.hfault.trans hf) hread.within h0 (by omega) (hread.stream_eq hs) (by omega)

end

/-- ReadContent is its loop on an empty line, with a pass for every byte left and one more (log 17). -/
theorem readContent_eq (p : Params) {s : State} (hw : Within s) :
    readContent p s = readContentLoop p ((stream s).length + 1) { s with llen := 0 } := by
  rw [readContent, remaining_eq_length_stream hw]

theorem readContent_of_terminated {p : Params} {content rest : List Byte} {s : State} (hf : s.hfault = false)
    (hw : Within s) (h0 : (0 : Byte) ∉ content) (hmax : content.length ≤ p.lineMax)
    (hs : stream s = content ++ 0 :: rest) :
    Reads s (content ++ [0]) (readContent p s) ∧ lineContent (readContent p s) = content ∧
      (readContent p s).ln = s.ln := by
  have hn : content.length < (stream s).length + 1 := by
    rw [hs, List.length_append]
    omega
  rw [readContent_eq p hw]
  obtain ⟨hread, hline, hln⟩ := readContentLoop_of_terminated (s := { s with llen := 0 }) hf hw h0
    (by rwa [Nat.zero_add]) (Nat.zero_le _) hs hn
  exact ⟨⟨hread.bytes, hread.within, hread.d, hread.hfault, hread.bi_le, hread.bi_lt, hread.ctr⟩, hline, hln⟩

/-- Settles O39: the loop of ReadContent, whose passes cover every byte left. -/
theorem readContentStopsAtTerminator : Obligations.ReadContentStopsAtTerminator := by
  intro s content rest hh hw h0
  have ⟨_, hf⟩ := hh
  have hexec : exec .readContent s = .next (readContent Config.params s) := whileHandling_of_handling _ hh
  refine ⟨fun hmax hs => ?_, fun hmax hs => ⟨_, hexec, ?_⟩, fun hmax hs => ⟨_, hexec, ?_⟩⟩
  · obtain ⟨hread, hline, hln⟩ := readContent_of_terminated hf hw h0 hmax hs
    have hrest : stream s = content ++ [0] ++ rest := by
      rw [hs, List.append_assoc]
      rfl
    exact ⟨_, hexec, hread.hfault.trans hf, hline, hread.stream_eq hrest, hread.within, hread.d, readContent_text _ s,
      hln⟩
  · rw [readContent_eq _ hw]
    refine readContentLoop_of_long (content := content) (rest := rest) (s := { s with llen := 0 }) hf hw h0
      (Nat.zero_le _) (by rwa [Nat.zero_add]) hs ?_
    rw [hs, List.length_append]
    omega
  · rw [readContent_eq _ hw]
    refine readContentLoop_of_short (content := content) (s := { s with llen := 0 }) hf hw h0 (by rwa [Nat.zero_add])
      hs ?_
    rw [hs]
    exact Nat.lt_succ_self _

/-- ReadContent, whatever it meets: fewer bytes are left, or a code of the host is raised. -/
theorem readContentLoop_outcome (p : Params) (n : Nat) {m : Nat} {s : State} (hf : s.hfault = false) (hw : Within s)
    (hlen : (stream s).length < m) : HostOutcome m (readContentLoop p n s) := by
  induction n generalizing s with
  | zero => exact .inr ⟨hf, hw, hlen⟩
  | succ n ih =>
    have hnext : HostOutcome m (nextByte s) :=
      (nextByte_outcome hf hw (Nat.lt_succ_of_lt hlen)).mono hostCode_of_truncated (Nat.le_refl m)
    rw [readContentLoop]
    split
    · exact hnext
    · rename_i hgo
      have hrun : (nextByte s).hfault = false := Bool.eq_false_of_not_eq_true (not_or.mp hgo).1
      split
      · exact .inl ⟨rfl, rfl⟩
      · rcases hnext with ⟨hraise, _⟩ | ⟨_, hw', hlen'⟩
        · exact absurd (hrun.symm.trans hraise) Bool.false_ne_true
        · exact ih hrun hw' hlen'

theorem readContent_outcome (p : Params) {m : Nat} {s : State} (hf : s.hfault = false) (hw : Within s)
    (hlen : (stream s).length < m) : HostOutcome m (readContent p s) :=
  readContentLoop_outcome p _ (s := { s with llen := 0 }) hf hw hlen

/-! ## The printed line (R237) -/

theorem emitLine_of_ok {p : Params} {s : State} {t : Text} (ln : BitVec 16) (h : detok p (lineContent s) = .ok t) :
    emitLine p ln s = endCall (print (lineText ln t) s) := by
  rw [emitLine, h]

theorem emitLine_of_error {p : Params} {s : State} {c : Code} (ln : BitVec 16)
    (h : detok p (lineContent s) = .error c) : emitLine p ln s = raiseHost c s := by
  rw [emitLine, h]

/-- Settles O40: the two answers of the Detok call. -/
theorem emitLinePrintsLine : Obligations.EmitLinePrintsLine := by
  intro s ln hh
  have hexec : exec (.emitLine ln) s = .next (emitLine Config.params ln s) := whileHandling_of_handling _ hh
  exact ⟨fun t h => hexec.trans (congrArg _ (emitLine_of_ok ln h)),
    fun c h => hexec.trans (congrArg _ (emitLine_of_error ln h))⟩

theorem emitLine_text_prefix (p : Params) (ln : BitVec 16) (s : State) : s.text <+: (emitLine p ln s).text := by
  unfold emitLine
  split
  · exact List.prefix_append _ _
  · exact List.prefix_rfl

theorem emitLine_outcome (p : Params) (ln : BitVec 16) {m : Nat} {s : State} (hf : s.hfault = false) (hw : Within s)
    (hlen : (stream s).length < m) : HostOutcome m (emitLine p ln s) := by
  cases h : detok p (lineContent s) with
  | ok t =>
    rw [emitLine_of_ok ln h]
    exact .inr ⟨hf, hw, hlen⟩
  | error c =>
    rw [emitLine_of_error ln h]
    exact .inl ⟨rfl, detokFrom_error h⟩

end Machine
end Sys2Proof

/-! PROOF. The host's handling of an event (R231, R232): a line of RECONSTRUCT's loop, the passes the loop needs, its
two endings, the printed program, and the header of a Name block. -/

namespace Sys2Proof
namespace Machine

/-! ## One line (R232) -/

theorem lineBody_eq (p : Params) (b : Byte) (s : State) :
    lineBody p b s = hostThen (fun t => emitLine p t.ln t)
      (hostThen (readContent p) (hostThen lineHeader (checkBlockNumber b s))) := rfl

/-- After a host fault a line does nothing but end in it (R304). -/
theorem lineBody_of_hfault (p : Params) (b : Byte) {s : State} (hf : s.hfault = true) :
    (lineBody p b s).hfault = true := by
  have hcheck : (checkBlockNumber b s).hfault = true := by
    unfold checkBlockNumber
    dsimp only
    split
    · exact hf
    · rfl
  rw [lineBody_eq, hostThen_of_hfault lineHeader hcheck, hostThen_of_hfault _ hcheck, hostThen_of_hfault _ hcheck,
    hcheck]

/-- A line takes a byte at least, or raises a code of the host. -/
theorem lineBody_outcome (p : Params) (b : Byte) {n : Nat} {s : State} (hf : s.hfault = false) (hw : Within s)
    (hlen : (stream s).length < n + 1) : HostOutcome n (lineBody p b s) := by
  have hcheck : HostOutcome (n + 4) (checkBlockNumber b s) := checkBlockNumber_outcome b hf hw (by omega)
  have hheader : HostOutcome n (hostThen lineHeader (checkBlockNumber b s)) :=
    hostThen_outcome (fun _ hf hw hlen => (lineHeader_outcome hf hw hlen).mono hostCode_of_truncated (Nat.le_refl n))
      hcheck
  have hcontent := hostThen_outcome (fun _ => readContent_outcome p) hheader
  exact hostThen_outcome (f := fun t => emitLine p t.ln t) (fun t => emitLine_outcome p t.ln) hcontent

theorem lineBody_text_prefix (p : Params) (b : Byte) (s : State) : s.text <+: (lineBody p b s).text := by
  have hread : (hostThen (readContent p) (hostThen lineHeader (checkBlockNumber b s))).text = s.text := by
    rw [hostThen_text (readContent_text p), hostThen_text lineHeader_text, checkBlockNumber_text]
  rw [lineBody_eq]
  generalize hostThen (readContent p) (hostThen lineHeader (checkBlockNumber b s)) = t at hread ⊢
  rw [← hread, hostThen]
  split
  · exact List.prefix_rfl
  · exact emitLine_text_prefix p _ _

/-! ## RECONSTRUCT's loop (R232) -/

section
variable {s : State} (hw : Within s)
include hw

/-- The pass that finds no byte left. -/
theorem lineLoop_of_nil (p : Params) (n : Nat) (hs : stream s = []) : lineLoop p (n + 1) s = normalise s := by
  have hbyte : byteAt (normalise s) = none := by rw [byteAt_normalise hw, hs, List.head?_nil]
  rw [lineLoop, hbyte]

/-- The pass that meets the sentinel (R238), or reads a line. -/
theorem lineLoop_of_cons (p : Params) (n : Nat) {b : Byte} {rest : List Byte} (hs : stream s = b :: rest) :
    lineLoop p (n + 1) s =
      if atSentinel (normalise s) then sentinelTest (normalise s)
      else hostThen (lineLoop p n) (lineBody p b (sentinelTest (normalise s))) := by
  have hbyte : byteAt (normalise s) = some b := by rw [byteAt_normalise hw, hs, List.head?_cons]
  rw [lineLoop, hbyte]
  rfl

/-- What is left before a line's block-number check is what was left before the pass. -/
theorem stream_sentinelTest_normalise : stream (sentinelTest (normalise s)) = stream s := stream_normalise hw

theorem within_sentinelTest_normalise : Within (sentinelTest (normalise s)) := within_normalise hw

end

/-- Passes for every byte left and one more are enough, whatever their number. -/
theorem lineLoop_eq_of_lt (p : Params) (n m : Nat) {s : State} (hw : Within s) (hn : (stream s).length < n)
    (hm : (stream s).length < m) : lineLoop p n s = lineLoop p m s := by
  induction n generalizing s m with
  | zero => exact absurd hn (Nat.not_lt_zero _)
  | succ n ih =>
    obtain ⟨m, rfl⟩ := Nat.exists_eq_add_one.mpr (Nat.zero_lt_of_lt hm)
    cases hs : stream s with
    | nil => rw [lineLoop_of_nil hw p n hs, lineLoop_of_nil hw p m hs]
    | cons b rest =>
      have hw' := within_sentinelTest_normalise hw
      have hlen' := congrArg List.length (stream_sentinelTest_normalise hw)
      rw [lineLoop_of_cons hw p n hs, lineLoop_of_cons hw p m hs]
      refine if_congr Iff.rfl rfl ?_
      generalize sentinelTest (normalise s) = t at hw' hlen' ⊢
      cases hf : (lineBody p b t).hfault with
      | true => rw [hostThen_of_hfault _ hf, hostThen_of_hfault _ hf]
      | false =>
        have hft : t.hfault = false :=
          Bool.eq_false_iff.mpr fun h => absurd (hf.symm.trans (lineBody_of_hfault p b h)) Bool.false_ne_true
        rw [hostThen_of_running _ hf, hostThen_of_running _ hf]
        have houtcome := lineBody_outcome p b hft hw' (Nat.lt_succ_self _)
        rcases houtcome with ⟨hraise, _⟩ | ⟨_, hwithin, hlen⟩
        · exact absurd (hf.symm.trans hraise) Bool.false_ne_true
        · exact ih m hwithin (by omega) (by omega)

/-- Settles O42: the model's bound is a pass for every byte left and one more. -/
theorem lineLoopPassesSuffice : Obligations.LineLoopPassesSuffice := by
  intro p s n hw hn
  rw [remaining_eq_length_stream hw] at hn ⊢
  exact lineLoop_eq_of_lt p _ _ hw hn (Nat.lt_succ_self _)

theorem lineLoop_outcome (p : Params) (n : Nat) {m : Nat} {s : State} (hf : s.hfault = false) (hw : Within s)
    (hlen : (stream s).length < m) : HostOutcome m (lineLoop p n s) := by
  induction n generalizing s with
  | zero => exact .inr ⟨hf, hw, hlen⟩
  | succ n ih =>
    have hf' := (normalise_hfault s).trans hf
    have hw' := within_sentinelTest_normalise hw
    have hlen' := (congrArg List.length (stream_sentinelTest_normalise hw)).trans_lt hlen
    cases hs : stream s with
    | nil =>
      rw [lineLoop_of_nil hw p n hs]
      exact .inr ⟨hf', hw', hlen'⟩
    | cons b rest =>
      rw [lineLoop_of_cons hw p n hs]
      split
      · exact .inr ⟨hf', hw', hlen'⟩
      · exact hostThen_outcome (fun _ => ih) (lineBody_outcome p b hf' hw' (Nat.lt_succ_of_lt hlen'))

theorem lineLoop_text_prefix (p : Params) (n : Nat) (s : State) : s.text <+: (lineLoop p n s).text := by
  induction n generalizing s with
  | zero => exact List.prefix_rfl
  | succ n ih =>
    rw [lineLoop]
    split
    · rw [normalise_text]
    · dsimp only
      split
      · rw [sentinelTest_text, normalise_text]
      · rename_i b _ _
        have hline := lineBody_text_prefix p b (sentinelTest (normalise s))
        rw [sentinelTest_text, normalise_text] at hline
        refine hline.trans ?_
        rw [hostThen]
        split
        · exact List.prefix_rfl
        · exact ih _

/-! ## RECONSTRUCT's two endings (R232, R304) -/

theorem ackEvent_of_pending {s : State} (hr : s.rst = false) (hfault : s.fault = false) (ho : s.outPending ≠ 0) :
    ackEvent s = acknowledged s :=
  if_pos ((ackAccepted_iff s).mpr ⟨hr, hfault, ho⟩)

/-- RECONSTRUCT up to its EV_ACK. -/
def programLoop (p : Params) (s : State) : State := lineLoop p (remaining (beginProgram s) + 1) (beginProgram s)

theorem reconstruct_eq (p : Params) (s : State) : reconstruct p s = hostThen ackEvent (programLoop p s) := rfl

theorem within_beginProgram (s : State) : Within (beginProgram s) := Nat.zero_le _

theorem programLoop_sameBlock (p : Params) (s : State) : sameBlock s (programLoop p s) := by
  obtain ⟨h, _⟩ := hostOnly_trans (beginProgram_hostOnly s) (lineLoop_hostOnly p (remaining (beginProgram s) + 1) _)
  exact h

theorem programLoop_text_prefix (p : Params) (s : State) : s.text <+: (programLoop p s).text :=
  lineLoop_text_prefix p _ (beginProgram s)

/-- A host fault in the loop has a code of the host (R304). -/
theorem programLoop_hostCode {p : Params} {s : State} (hf : s.hfault = false) (h : (programLoop p s).hfault = true) :
    isHostCode (programLoop p s).hfaultCode = true := by
  have houtcome : HostOutcome _ (programLoop p s) :=
    lineLoop_outcome p _ (s := beginProgram s) hf (within_beginProgram s) (Nat.lt_succ_self _)
  rcases houtcome with ⟨_, hc⟩ | ⟨hf', _⟩
  · exact hc
  · exact absurd (hf'.symm.trans h) Bool.false_ne_true

/-- Without a host fault the loop ends in EV_ACK of the PROGRAM event: the block's registers are as the event left
them, so it is accepted and releases the store (R311). -/
theorem reconstruct_of_running {p : Params} {s : State} (hr : s.rst = false) (hfault : s.fault = false)
    (ho : s.outPending = 2) (hf : (programLoop p s).hfault = false) :
    reconstruct p s = { programLoop p s with seqLen := 0, outPending := 0 } := by
  obtain ⟨_, _, _, _, _, _, _, _, _, _, _, hpending, hfault', _, hrst'⟩ := programLoop_sameBlock p s
  have ho' : (programLoop p s).outPending = 2 := hpending.trans ho
  have hne : (programLoop p s).outPending ≠ 0 := by
    rw [ho']
    decide
  rw [reconstruct_eq, hostThen_of_running _ hf, ackEvent_of_pending (hrst'.trans hr) (hfault'.trans hfault) hne,
    acknowledged, if_pos ho']

/-- Settles O34: the loop ends running, and EV_ACK follows, or it ends in a code of the host. -/
theorem reconstructEndsOrFaults : Obligations.ReconstructEndsOrFaults := by
  intro s hr hfault hh
  have ⟨ho, hf⟩ := hh
  have hexec : exec .reconstruct s = .next (reconstruct Config.params s) := whileHandling_of_handling _ hh
  have hd := (reconstruct_d Config.params s).trans
    (dataPayloads_eq (readable_of_handling ((handling_iff s).mpr hh)))
  have hprefix := programLoop_text_prefix Config.params s
  cases hend : (programLoop Config.params s).hfault with
  | false =>
    have e := reconstruct_of_running hr hfault ho hend
    rw [e] at hexec hd
    exact ⟨_, hexec, hexec, hprefix, hd, .inl ⟨hend, rfl, rfl⟩⟩
  | true =>
    have e : reconstruct Config.params s = programLoop Config.params s := hostThen_of_hfault _ hend
    obtain ⟨_, _, _, _, _, _, _, _, _, _, hlen, hpending, _⟩ := programLoop_sameBlock Config.params s
    rw [e] at hexec hd
    exact ⟨_, hexec, hexec, hprefix, hd, .inr ⟨hend, programLoop_hostCode hf hend, hpending.trans ho, hlen⟩⟩

/-! ## A program of well-formed lines (R102, R232) -/

/-- A line of a program: its framing byte, its number, its content and the content's text. -/
abbrev Line := Byte × BitVec 16 × List Byte × Text

/-- The bytes of a line with block number `k` (R102). -/
def bytesOfLine (k : Byte) (l : Line) : List Byte := lineBytes k l.1 l.2.1 l.2.2.1

/-- The printed form of a line (R237). -/
def textOfLine (l : Line) : Text := lineText l.2.1 l.2.2.2

/-- The content is free of zeros, fits the line buffer and has its text (R236, R237). -/
def Printable (p : Params) (l : Line) : Prop :=
  (0 : Byte) ∉ l.2.2.1 ∧ l.2.2.1.length ≤ p.lineMax ∧ detok p l.2.2.1 = .ok l.2.2.2

/-- The host stands at the start of a line in the last payload, with `rest` to read, the counter unset or `k`. -/
structure AtLine (k : Byte) (rest : List Byte) (s : State) : Prop where
  running : s.hfault = false
  within : Within s
  last : s.d.length ≤ s.bi + 1
  ctr : s.ctr.getD k = k
  bytes : stream s = rest

theorem bigEndian_extract (ln : BitVec 16) : bigEndian (ln.extractLsb' 8 8) (ln.extractLsb' 0 8) = ln :=
  pair16_bytes ln

/-- In the last payload no boundary is crossed, so the counter stays (R239). -/
theorem Reads.ctr_of_last {s t : State} {bs : List Byte} (h : Reads s bs t) (hlast : s.d.length ≤ s.bi + 1) :
    t.ctr = s.ctr := by
  refine h.ctr ?_
  have hle := h.bi_le
  rcases h.bi_lt with e | hlt
  · exact e
  · omega

theorem Reads.atLine {s t : State} {k : Byte} {bs rest : List Byte} (h : Reads s bs t) (hs : AtLine k (bs ++ rest) s) :
    AtLine k rest t := by
  constructor
  case running => exact h.hfault.trans hs.running
  case within => exact h.within
  case last => exact (congrArg List.length h.d).trans_le (hs.last.trans (Nat.succ_le_succ h.bi_le))
  case ctr => rw [h.ctr_of_last hs.last, hs.ctr]
  case bytes => exact h.stream_eq hs.bytes

theorem checkBlockNumber_atLine {k : Byte} {rest : List Byte} {s : State} (h : AtLine k rest s) :
    AtLine k rest (checkBlockNumber k s) := by
  rw [checkBlockNumber_of_pass (.inl h.ctr.symm), h.ctr]
  exact ⟨h.running, h.within, h.last, rfl, h.bytes⟩

theorem AtLine.printed {s : State} {k : Byte} {rest : List Byte} (h : AtLine k rest s) (t : Text) :
    AtLine k rest (endCall (print t s)) :=
  ⟨h.running, h.within, h.last, h.ctr, h.bytes⟩

/-- A line is read, printed, and left behind (R233, R234, R236, R237). -/
theorem lineBody_of_line {p : Params} {k : Byte} {l : Line} {rest : List Byte} {s : State} (hl : Printable p l)
    (h : AtLine k (bytesOfLine k l ++ rest) s) :
    AtLine k rest (lineBody p k s) ∧ (lineBody p k s).text = s.text ++ textOfLine l := by
  obtain ⟨x, ln, content, t⟩ := l
  obtain ⟨h0, hmax, hdetok⟩ := hl
  have hbytes : bytesOfLine k (x, ln, content, t) ++ rest =
      [k, x, ln.extractLsb' 8 8, ln.extractLsb' 0 8] ++ ((content ++ [0]) ++ rest) := by
    simp [bytesOfLine, lineBytes]
  have hcheck := checkBlockNumber_atLine (hbytes ▸ h)
  have htext := checkBlockNumber_text k s
  rw [lineBody_eq]
  generalize checkBlockNumber k s = u at hcheck htext ⊢
  obtain ⟨hhead, hln⟩ := lineHeader_of_four hcheck.running hcheck.within hcheck.bytes
  have hheader := hhead.atLine hcheck
  obtain ⟨hbody, hline, hln'⟩ := readContent_of_terminated hheader.running hheader.within h0 hmax
    (hheader.bytes.trans (List.append_assoc _ _ _))
  have hcontent := hbody.atLine hheader
  have htext' : (readContent p (lineHeader u)).text = s.text := by rw [readContent_text, lineHeader_text, htext]
  rw [hostThen_of_running _ hcheck.running, hostThen_of_running _ hheader.running,
    hostThen_of_running _ hcontent.running, emitLine_of_ok _ (hline ▸ hdetok), hln', hln, bigEndian_extract]
  exact ⟨hcontent.printed _, congrArg (· ++ lineText ln t) htext'⟩

/-- A line has more bytes than the sentinel, so its start is not one (R238). -/
theorem atSentinel_of_line {k : Byte} {l : Line} {rest : List Byte} {s : State}
    (h : AtLine k (bytesOfLine k l ++ rest) s) : atSentinel s = false := by
  refine decide_eq_false fun hzero => ?_
  have hlen := congrArg List.length (h.bytes.symm.trans ((stream_of_last h.last).trans hzero))
  simp only [bytesOfLine, lineBytes, List.length_append, List.length_cons, List.length_nil] at hlen
  omega

/-- A pass for each line and one for the end print the program (R232). -/
theorem lineLoop_of_lines {p : Params} {k : Byte} {lines : List Line} {n : Nat} {s : State}
    (hlines : ∀ l ∈ lines, Printable p l) (h : AtLine k (lines.flatMap (bytesOfLine k)) s) (hn : lines.length < n) :
    (lineLoop p n s).hfault = false ∧ (lineLoop p n s).text = s.text ++ lines.flatMap textOfLine := by
  obtain ⟨n, rfl⟩ := Nat.exists_eq_add_one.mpr (Nat.zero_lt_of_lt hn)
  induction lines generalizing s n with
  | nil =>
    rw [lineLoop_of_nil h.within p n h.bytes, normalise_hfault, normalise_text]
    exact ⟨h.running, (List.append_nil _).symm⟩
  | cons l lines ih =>
    rw [List.length_cons] at hn
    rw [List.flatMap_cons] at h ⊢
    have hstart : AtLine k (bytesOfLine k l ++ lines.flatMap (bytesOfLine k)) (sentinelTest s) :=
      ⟨h.running, h.within, h.last, h.ctr, h.bytes⟩
    obtain ⟨hnext, htext⟩ := lineBody_of_line (hlines l List.mem_cons_self) hstart
    have e : lineLoop p (n + 1) s = lineLoop p n (lineBody p k (sentinelTest s)) := by
      rw [lineLoop_of_cons h.within p n h.bytes, normalise_of_last h.last, atSentinel_of_line h,
        if_neg Bool.false_ne_true, hostThen_of_running _ hnext.running]
    obtain ⟨n, rfl⟩ := Nat.exists_eq_add_one.mpr (show 0 < n by omega)
    rw [e, ← List.append_assoc]
    rw [sentinelTest_text] at htext
    rw [← htext]
    exact ih (fun l hl => hlines l (List.mem_cons_of_mem _ hl)) hnext n (by omega)

theorem length_le_length_flatMap_bytesOfLine (k : Byte) (lines : List Line) :
    lines.length ≤ (lines.flatMap (bytesOfLine k)).length := by
  induction lines with
  | nil => exact Nat.le_refl _
  | cons l lines ih =>
    simp only [List.flatMap_cons, List.length_cons, List.length_append, bytesOfLine, lineBytes]
    omega

/-- Settles O43: the one payload is the stream of the lines, and the loop has a pass for each of its bytes. -/
theorem reconstructPrintsLines : Obligations.ReconstructPrintsLines := by
  intro s k lines hr hfault hh hlines hpayload
  have ⟨ho, hf⟩ := hh
  have hexec : exec .reconstruct s = .next (reconstruct Config.params s) := whileHandling_of_handling _ hh
  have hd : (beginProgram s).d = [lines.flatMap (bytesOfLine k)] :=
    (dataPayloads_eq (readable_of_handling ((handling_iff s).mpr hh))).trans hpayload
  have hstart : AtLine k (lines.flatMap (bytesOfLine k)) (beginProgram s) := by
    refine ⟨hf, within_beginProgram s, ?_, rfl, ?_⟩
    · rw [hd]
      exact Nat.le_add_left 1 _
    · have hbi : (beginProgram s).bi = 0 := rfl
      have hpos : (beginProgram s).pos = 0 := rfl
      simp [stream, curBlock, hd, hbi, hpos]
  have hn : lines.length < remaining (beginProgram s) + 1 := by
    rw [remaining_eq_length_stream (within_beginProgram s), hstart.bytes]
    exact Nat.lt_succ_of_le (length_le_length_flatMap_bytesOfLine k lines)
  obtain ⟨hend, htext⟩ := lineLoop_of_lines (p := Config.params) hlines hstart hn
  rw [reconstruct_of_running hr hfault ho hend] at hexec
  exact ⟨_, hexec, hexec, hend, rfl, rfl, htext⟩

/-! ## A NAME event (R231) -/

/-- Settles O33: the record read through the port is the last, and EV_ACK of a NAME event keeps the store. -/
theorem onNamePrintsHeader : Obligations.OnNamePrintsHeader := by
  intro s hr hfault ho hf hlen
  have hne : s.outPending ≠ 0 := by
    rw [ho]
    decide
  have hread : readSeq s (s.seqLen - 1) = some (seqEntry s (s.seqLen - 1)) := by
    rw [readSeq_of_readable ((readable_iff s).mpr (.inl hne)), if_pos (by omega)]
  have hname : onName s = .next (acknowledged (print (headerText (seqEntry s (s.seqLen - 1)).name) s)) := by
    rw [onName, hread, ← ackEvent_of_pending (s := print _ s) hr hfault hne]
  have hexec : exec .onName s = onName s := if_pos (by simp [ho, hf, evName])
  have hkeeps (t : State) (h : t.outPending = 1) : acknowledged t = { t with outPending := 0 } := by
    rw [acknowledged, h, if_neg (by decide)]
  rw [hkeeps (print _ s) ho] at hname
  exact ⟨hexec.trans hname, hexec.trans hname⟩

end Machine
end Sys2Proof

/-! PROOF. The Detokenizer (R260 to R267): what each unit does where it is met, the byte of a Detok call each unit is,
and a call as the run of its content's units. -/

namespace Sys2Proof
namespace Machine

/-! ## Units that are met (R261 to R266, log 4) -/

section
variable {s : State}

theorem emitUnit_of_met (t : Text) (hf : s.hfault = false) (hp : s.dtPfx = false) :
    emitUnit t s = { s with dtOut := s.dtOut ++ t } :=
  if_pos (by simp [hf, hp])

theorem emitUnit_nil (s : State) : emitUnit [] s = s := by
  rw [emitUnit, List.append_nil, ite_self]

theorem execDtFnpfx_of_met (hf : s.hfault = false) (hp : s.dtPfx = false) :
    execDtFnpfx s = .next { s with dtPfx := true } :=
  congrArg _ (if_pos (by simp [hf, hp]))

theorem execDtFn_of_met (m : Byte) (hf : s.hfault = false) (hp : s.dtPfx = true) :
    execDtFn m s = .next (if fnInRange Config.params m then
      { s with dtOut := s.dtOut ++ Config.params.fnTokens m, dtPfx := false } else raiseHost fcFnRange s) :=
  congrArg _ (if_pos (by simp [hf, hp]))

end

theorem fnInRange_iff (p : Params) (m : Byte) :
    fnInRange p m = true ↔ 0x80 ≤ m.toNat ∧ m.toNat < 0x80 + p.fnCount := by
  simp only [fnInRange, Bool.and_eq_true, decide_eq_true_eq]
  rfl

/-- The digits `0 .. 9`, `A .. F` are found by their values (R108). -/
theorem hexDigits_getElem? : ∀ n < 16,
    ['0', '1', '2', '3', '4', '5', '6', '7', '8', '9', 'A', 'B', 'C', 'D', 'E', 'F'][n]? = some (hexDigit n) := by
  decide

/-- Settles O44: each unit where it is met, and the two digits of a byte. -/
theorem detokUnitAppendsText : Obligations.DetokUnitAppendsText := by
  intro s b hf
  refine ⟨fun hp => ?_, fun hp => ?_⟩
  · have hemit (t : Text) : emitUnit t s = { s with dtOut := s.dtOut ++ t } := emitUnit_of_met t hf hp
    have hhigh : b.toNat / 16 < 16 := Nat.div_lt_of_lt_mul b.isLt
    have hlow : b.toNat % 16 < 16 := Nat.mod_lt _ (by decide)
    exact ⟨congrArg _ (emitUnit_nil s), congrArg _ (hemit _), congrArg _ (hemit _),
      congrArg _ ((hemit _).trans (by rw [Config.params.opTokens_else]; rfl)), execDtFnpfx_of_met hf hp,
      _, _, hexDigits_getElem? _ hhigh, hexDigits_getElem? _ hlow, congrArg _ (hemit _)⟩
  · refine (execDtFn_of_met b hf hp).trans (congrArg _ ?_)
    simp only [fnInRange_iff]
    rfl

/-! ## A byte of the call is its unit (R104, R105, R260) -/

/-- The classes of a content byte other than the prefix agree with the table: its unit appends its text (R104). -/
theorem exec_unitOf_of_ne_fnPrefix {b : Byte} (hb : b ≠ Config.fnPrefix) (s : State) :
    exec (unitOf false b) s = .next (emitUnit (unitText Config.params b) s) := by
  have hop : (Config.opBase ≤ b.toNat ∧ b.toNat < Config.opEnd) ↔ isOpTok b = true := (isOpTok_iff b).symm
  simp only [unitOf, unitText, Bool.false_eq_true, if_false, if_neg hb, ← isPrint_iff, hop]
  split_ifs <;> rfl

/-- A content byte that the call takes is the unit that leaves what the call goes on with. -/
theorem exec_unitOf_of_ok {s : State} {b : Byte} {out : Text} {pfx : Bool} (hf : s.hfault = false)
    (h : detokByte Config.params b s.dtOut s.dtPfx = .ok (out, pfx)) :
    exec (unitOf s.dtPfx b) s = .next { s with dtOut := out, dtPfx := pfx } := by
  unfold detokByte at h
  split_ifs at h with hp hin hb
  · cases h
    rw [hp]
    exact (execDtFn_of_met b hf hp).trans (congrArg _ (if_pos hin))
  · have hp := Bool.eq_false_of_not_eq_true hp
    cases h
    subst hb
    rw [hp]
    exact execDtFnpfx_of_met hf hp
  · have hp := Bool.eq_false_of_not_eq_true hp
    cases h
    rw [hp, exec_unitOf_of_ne_fnPrefix hb, emitUnit_of_met _ hf hp, ← hp]

/-- A content byte on which the call raises is the unit that raises, and it stands after 0xFF (R266). -/
theorem exec_unitOf_of_error {s : State} {b : Byte} {c : Code} (hf : s.hfault = false)
    (h : detokByte Config.params b s.dtOut s.dtPfx = .error c) :
    exec (unitOf s.dtPfx b) s = .next (raiseHost fcFnRange s) := by
  unfold detokByte at h
  split_ifs at h with hp hin
  rw [hp]
  exact (execDtFn_of_met b hf hp).trans (congrArg _ (if_neg hin))

/-- 0xFF awaits its second byte exactly where it is not itself one (R263). -/
theorem detokByte_pfx {p : Params} {b : Byte} {out out' : Text} {pfx pfx' : Bool}
    (h : detokByte p b out pfx = .ok (out', pfx')) : (!pfx && b == Config.fnPrefix) = pfx' := by
  unfold detokByte at h
  split_ifs at h with hp hin hb
  · cases h
    simp [hp]
  · cases h
    simp [hp, hb]
  · cases h
    simp [hb]

/-! ## A call is the run of its units (R260, R267) -/

theorem exec_unitOf_of_hfault {s : State} (h : s.hfault = true) (q : Bool) (b : Byte) :
    exec (unitOf q b) s = .next s := by
  have hemit (t : Text) : emitUnit t s = s := emitUnit_of_not_met t (.inl h)
  unfold unitOf
  split_ifs
  · exact execDtFn_of_not_met b (.inl h)
  · exact congrArg _ (hemit _)
  · exact congrArg _ (hemit _)
  · exact congrArg _ (hemit _)
  · exact execDtFnpfx_of_not_met (.inl h)
  · exact congrArg _ (hemit _)

/-- The units left after a raise have no effect (R304). -/
theorem execAll_unitsOf_of_hfault {s : State} (h : s.hfault = true) (q : Bool) (x : List Byte) :
    execAll (unitsOf q x) s = .next s := by
  induction x generalizing q with
  | nil => rfl
  | cons b rest ih => rw [unitsOf, execAll_cons_of_next _ (exec_unitOf_of_hfault h q b), ih]

/-- The state in which a run of units from `s` ends, by the answer of the call. -/
def EndsCall (s t : State) : Except Code Text → Prop
  | .ok text => t = { s with dtOut := text, dtPfx := false }
  | .error c => t.hfault = true ∧ t.hfaultCode = 6 ∧ c = 6 ∨ t.hfault = false ∧ t.dtPfx = true ∧ c = 7

/-- Where the call stands at the start of the run does not show at its end. -/
theorem endsCall_of_later {s t : State} {out : Text} {pfx : Bool} {r : Except Code Text}
    (h : EndsCall { s with dtOut := out, dtPfx := pfx } t r) : EndsCall s t r := by
  cases r with
  | ok text => exact h
  | error c => exact h

/-- The run of the units from any point of a call ends as the call does from there. -/
theorem execAll_unitsOf {s : State} (x : List Byte) (hf : s.hfault = false) :
    ∃ t, execAll (unitsOf s.dtPfx x) s = .next t ∧
      EndsCall s t (detokFrom Config.params x s.dtOut s.dtPfx) := by
  induction x generalizing s with
  | nil =>
    refine ⟨s, rfl, ?_⟩
    cases hp : s.dtPfx with
    | true => exact .inr ⟨hf, hp, rfl⟩
    | false =>
      change s = { s with dtOut := s.dtOut, dtPfx := false }
      rw [← hp]
  | cons b rest ih =>
    rw [detokFrom, unitsOf]
    cases h : detokByte Config.params b s.dtOut s.dtPfx with
    | ok r =>
      obtain ⟨out, pfx⟩ := r
      obtain ⟨t, hrun, hend⟩ := ih (s := { s with dtOut := out, dtPfx := pfx }) hf
      rw [execAll_cons_of_next _ (exec_unitOf_of_ok hf h), detokByte_pfx h]
      exact ⟨t, hrun, endsCall_of_later hend⟩
    | error c =>
      rw [execAll_cons_of_next _ (exec_unitOf_of_error hf h)]
      exact ⟨_, execAll_unitsOf_of_hfault rfl _ rest, .inl ⟨rfl, rfl, detokByte_error h⟩⟩

/-- Settles O45: the run from the start of a call. -/
theorem detokIsRunOfUnits : Obligations.DetokIsRunOfUnits := by
  intro s x hf hout hp
  obtain ⟨t, hrun, hend⟩ := execAll_unitsOf x hf
  rw [hp] at hrun
  rw [hout, hp] at hend
  change EndsCall s t (detok Config.params x) at hend
  refine ⟨t, hrun, ?_⟩
  cases h : detok Config.params x with
  | ok text =>
    rw [h] at hend
    exact Eq.trans hend (by rw [← hp])
  | error c =>
    rw [h] at hend
    exact hend

end Machine
end Sys2Proof

/-! PROOF. Faults and events (R303 to R312): the two raises, EV_ACK, and what a block that accepts no sample can still
change. -/

namespace Sys2Proof
namespace Machine

/-! ## Raises (R190, R303, R304) -/

section
variable {s : State}

theorem blockRaise_of_live (c : Code) (h : Live s) : blockRaise c s = .next (raiseBlock c s) :=
  congrArg _ (if_pos ((live_iff s).mpr h))

theorem hostRaise_of_busy (c : Code) (h : s.outPending ≠ 0 ∧ s.hfault = false) :
    hostRaise c s = .next (raiseHost c s) :=
  congrArg _ (if_pos ((hostBusy_iff s).mpr h))

theorem illegalBit_of_met {c : Code} (h : Live s ∧ s.blk.state = c) : illegalBit c s = raiseBlock fcIllegalState s :=
  if_pos ((live_and_state_iff c).mpr h)

theorem exec_bitstep_of_illegal (c : Bool) (hl : Live s) (hs : 13 ≤ s.blk.state.toNat) :
    exec (.bitstep c) s = .next (raiseBlock fcIllegalState s) :=
  (exec_bitstep_of_live c hl).trans (bitStep_illegal hs)

end

/-- Settles O23: each raising row is `blockRaise` of its code, and each reserved state code raises ILLEGAL_STATE. -/
theorem blockRaiseSetsFault : Obligations.BlockRaiseSetsFault := by
  intro s hl raised
  have hillegal {c : Code} (hs : s.blk.state = c) : Host.Outcome.next (illegalBit c s) = raised 8 :=
    congrArg _ (illegalBit_of_met ⟨hl, hs⟩)
  exact ⟨fun c => blockRaise_of_live c hl, blockRaise_of_live fcIntegrity hl, blockRaise_of_live fcResource hl,
    blockRaise_of_live fcIllegalState hl, fun c hs => exec_bitstep_of_illegal c hl hs, hillegal, hillegal, hillegal⟩

/-- Settles O24: each raising row is `hostRaise` of its code. -/
theorem hostRaiseSetsHostFault : Obligations.HostRaiseSetsHostFault := by
  intro s ho hf raised
  have hraise (c : Code) : hostRaise c s = raised c := hostRaise_of_busy c ⟨ho, hf⟩
  exact ⟨hraise, hraise fcBlocknum, hraise fcLineOverflow, hraise fcTruncated, hraise fcFnRange, hraise fcTruncPrefix⟩

/-! ## EV_ACK (R311) -/

/-- A refused EV_ACK has no effect. -/
theorem ackEvent_of_refused {s : State} (h : s.rst = true ∨ s.fault = true ∨ s.outPending = 0) : ackEvent s = s := by
  refine if_neg fun hacc => ?_
  obtain ⟨hr, hfault, ho⟩ := (ackAccepted_iff s).mp hacc
  rcases h with h | h | h
  · exact absurd (hr.symm.trans h) nofun
  · exact absurd (hfault.symm.trans h) nofun
  · exact ho h

theorem acknowledged_of_program {s : State} (h : s.outPending = 2) :
    acknowledged s = { s with seqLen := 0, outPending := 0 } := by
  rw [acknowledged, if_pos h]

theorem acknowledged_of_not_program {s : State} (h : s.outPending ≠ 2) :
    acknowledged s = { s with outPending := 0 } := by
  rw [acknowledged, if_neg h]

/-- Settles O4: refused, accepted for PROGRAM, accepted for another event. -/
theorem evAckReleasesProgram : Obligations.EvAckReleasesProgram := by
  intro s
  have hexec : exec .evAck s = .next (ackEvent s) := rfl
  rw [hexec]
  refine ⟨fun h => ?_, fun hr hfault hprogram => ?_, fun hr hfault ho hother => ?_⟩
  · rw [ackEvent_of_refused h]
  · have ho : s.outPending ≠ 0 := by
      rw [hprogram]
      decide
    rw [ackEvent_of_pending hr hfault ho, acknowledged_of_program hprogram]
  · rw [ackEvent_of_pending hr hfault ho, acknowledged_of_not_program hother]

/-! ## A block that accepts no sample (R303, R310) -/

theorem sameBlock_refl (s : State) : sameBlock s s := by
  simp [sameBlock]

/-- During a run a block that accepts no sample (R114) is moved by nothing but RESET_ASSERT and the EV_ACK of its event,
on its own or at the end of a routine of the host: every step of the block asks for acceptance, and the thresholds and
`RST` are written only under reset. -/
theorem effect_of_not_accepting {i : Instr} {s t : State} (h : Effect i s t) (hacc : ¬ Accepting s)
    (hrst : s.rst = false) (hi : i ≠ .resetAssert) :
    sameBlock s t ∨ (i = .evAck ∨ hostSide i = true) ∧ ∃ u, sameBlock s u ∧ t = ackEvent u := by
  cases h with
  | same => exact .inl (sameBlock_refl s)
  | reset hreset => exact absurd hreset hi
  | deassert _ hr | threshold _ _ _ hr => exact absurd (hrst.symm.trans hr) nofun
  | allocated _ ha | sample _ _ _ _ ha => exact absurd ha hacc
  | raisedBy _ _ hl | bit _ _ hl => exact absurd hl.1 hacc
  | host _ _ ho => exact .inl ho.1
  | ack hack => exact .inr ⟨.inl hack, s, sameBlock_refl s, rfl⟩
  | handled u hhost _ ho => exact .inr ⟨.inr hhost, u, ho.1, rfl⟩

theorem sameBlock_fault {s t : State} (h : sameBlock s t) : t.fault = s.fault := by
  obtain ⟨_, _, _, _, _, _, _, _, _, _, _, _, hfault, _⟩ := h
  exact hfault

/-- Settles O25: a faulted block accepts no sample, and it refuses EV_ACK too. -/
theorem faultIsStickyUntilReset : Obligations.FaultIsStickyUntilReset := by
  intro i s t hfault hrst hi e
  have hacc : ¬ Accepting s := fun ⟨_, hf, _⟩ => absurd (hf.symm.trans hfault) nofun
  rcases effect_of_not_accepting (exec_effect e) hacc hrst hi with hsame | ⟨_, u, hsame, rfl⟩
  · exact hsame
  · rwa [ackEvent_of_refused (.inr (.inl ((sameBlock_fault hsame).trans hfault)))]

/-- Settles O26: a block with an event pending accepts no sample, and the operations that end in EV_ACK are left out. -/
theorem pendingEventStallsBlock : Obligations.PendingEventStallsBlock := by
  intro i s t ho hrst hblock hack hreset e
  have hacc : ¬ Accepting s := fun ⟨_, _, hnone⟩ => ho hnone
  rcases effect_of_not_accepting (exec_effect e) hacc hrst hreset with hsame | ⟨hi | hhost, _⟩
  · exact hsame
  · exact absurd hi hack
  · exact absurd (hblock.symm.trans hhost) nofun

end Machine
end Sys2Proof

/-! PROOF. Reset, configuration and the run sequence (R340 to R346): the three port operations that act on reset, the
invariant at power-on, what the host does next, and why a run ends. -/

namespace Sys2Proof
namespace Machine

/-! ## Port operations (R340, R341, R342) -/

/-- Settles O1. -/
theorem resetAssertWritesResetValues : Obligations.ResetAssertWritesResetValues := fun s =>
  have hexec : exec .resetAssert s = .next (resetBlock s) := rfl
  ⟨[], false, hexec⟩

theorem exec_resetDeassert_of_held {s : State} (h : s.rst = true) :
    exec .resetDeassert s = .next (endCall { s with rst := false }) :=
  congrArg Host.Outcome.next (if_pos h)

theorem exec_resetDeassert_of_running {s : State} (h : s.rst = false) : exec .resetDeassert s = .next s :=
  congrArg Host.Outcome.next (if_neg (ne_true_of_eq_false h))

/-- Settles O2: accepted and refused. -/
theorem resetDeassertClearsReset : Obligations.ResetDeassertClearsReset := fun _ =>
  ⟨fun h => ⟨[], false, exec_resetDeassert_of_held h⟩, exec_resetDeassert_of_running⟩

/-- The contract of R25, in the words of R342's refusal. -/
theorem configLegal_iff (p : Params) (reg : BitVec 2) (v : Word) :
    configLegal p reg v = true ↔ ¬ (v.toNat > p.threshMax ∧ ¬ (v = 0xFFFFFFFF ∧ (reg = 1 ∨ reg = 3))) := by
  rw [not_and_or, not_not, not_lt]
  simp [configLegal, Config.infinity]

theorem configWrite_of_running {p : Params} {reg : BitVec 2} {v : Word} {s : State} (h : s.rst = false) :
    configWrite p reg v s = .next s :=
  if_neg (ne_true_of_eq_false h)

theorem configWrite_of_held {p : Params} {reg : BitVec 2} {v : Word} {s : State} (h : s.rst = true) :
    configWrite p reg v s =
      if configLegal p reg v then .next (writeThreshold reg v s) else .refused .outsideContract :=
  if_pos h

/-- Of the four thresholds, the one of that number is written (R342). -/
theorem writeThreshold_eq (reg : BitVec 2) (v : Word) (s : State) :
    writeThreshold reg v s =
      { s with
        oneLo := if reg = 0 then v else s.oneLo
        oneHi := if reg = 1 then v else s.oneHi
        zeroLo := if reg = 2 then v else s.zeroLo
        zeroHi := if reg = 3 then v else s.zeroHi } := by
  have hreg : reg = 0 ∨ reg = 1 ∨ reg = 2 ∨ reg = 3 := by
    revert reg
    decide
  rcases hreg with rfl | rfl | rfl | rfl <;> rfl

/-- Settles O3: refused while no reset is held, written inside the contract, refused by the model outside it. -/
theorem cfgWriteSetsOneThreshold : Obligations.CfgWriteSetsOneThreshold := by
  intro reg v s outside
  have hexec : exec (.cfgWrite reg v) s = configWrite Config.params reg v s := rfl
  refine ⟨fun hr => configWrite_of_running hr, fun hr hin => ?_, hexec, fun p hr hout => ?_⟩
  · rw [hexec, configWrite_of_held hr, if_pos ((configLegal_iff _ reg v).mpr hin), writeThreshold_eq]
  · rw [configWrite_of_held hr, if_neg fun hlegal => (configLegal_iff p reg v).mp hlegal hout]

/-! ## Power-on (R343, R344) -/

/-- Settles O56: at power-on no record is active, the store is empty, no event is pending and neither agent has
faulted. -/
theorem resetMeetsInvariant : Obligations.ResetMeetsInvariant where
  record := nofun
  payload := wf_nil
  store := ⟨Nat.zero_le _, Nat.zero_le _, nofun⟩
  event hne := absurd rfl hne
  faultCodes := ⟨nofun, fun _ => rfl⟩
  hostCodes := ⟨nofun, fun _ => rfl⟩
  call := nofun
  held _ := ⟨rfl, rfl, rfl, rfl, rfl⟩
  cursor := .inr ⟨rfl, rfl⟩
  line := ⟨Nat.zero_le _, Nat.zero_le _⟩

/-! ## What the host does next (R345, R346) -/

/-- A run ends by a fault of either agent, or with every sample consumed and no event pending (R307, R345 step 6). -/
theorem runEnded_iff (s : State) :
    runEnded s = true ↔ s.rst = false ∧
      (s.fault = true ∨ s.hfault = true ∨ s.samples.length ≤ s.idx.toNat ∧ s.outPending = 0) := by
  simp [runEnded, evNone, or_assoc]

/-- A run in progress: neither agent has faulted, and an event is pending or a sample is left. -/
theorem not_runEnded_iff {s : State} (hr : s.rst = false) :
    runEnded s = false ↔
      s.fault = false ∧ s.hfault = false ∧ (s.outPending = 0 → s.idx.toNat < s.samples.length) := by
  rw [← Bool.not_eq_true, runEnded_iff]
  grind

section
variable {s : State}

theorem newRun_of_no_input (h : s.inputs = []) : newRun s = .idle := by
  rw [newRun, h]

section
variable {xs : List Sample} {rest : List (List Sample)} (hin : s.inputs = xs :: rest) (hlen : xs.length ≤ 2 ^ 32 - 1)
include hin hlen

theorem newRun_of_input : newRun s = if s.rst then .start xs rest else .issue .resetAssert := by
  rw [newRun, hin]
  exact if_pos (decide_eq_true hlen)

theorem newRun_of_held (hr : s.rst = true) : newRun s = .start xs rest := by
  rw [newRun_of_input hin hlen, if_pos hr]

theorem newRun_of_ended (hr : s.rst = false) : newRun s = .issue .resetAssert := by
  rw [newRun_of_input hin hlen, if_neg (ne_true_of_eq_false hr)]

end

theorem bootOp_of_no_run (h : s.rst = true ∨ runEnded s = true) : bootOp s = newRun s :=
  if_pos (Bool.or_eq_true_iff.mpr h)

section
variable (hr : s.rst = false) (hend : runEnded s = false)
include hr hend

theorem bootOp_of_name (ho : s.outPending = 1) : bootOp s = .issue .onName := by
  simp [bootOp, hr, hend, ho, evName]

theorem bootOp_of_program (ho : s.outPending = 2) : bootOp s = .issue .reconstruct := by
  simp [bootOp, hr, hend, ho, evName, evProgram]

theorem bootOp_of_sample (ho : s.outPending = 0) {x : Sample} (hx : s.samples[s.idx.toNat]? = some x) :
    bootOp s = .issue (.samplePush x) := by
  simp [bootOp, hr, hend, ho, hx, evName, evProgram]

end

section
variable (hq : s.queue = [])
include hq

theorem step_of_issue {i : Instr} (h : bootOp s = .issue i) : step s = exec i s := by
  rw [step, fetch_of_queue_nil hq, h]

theorem step_of_idle (h : bootOp s = .idle) : step s = .next s := by
  rw [step, fetch_of_queue_nil hq, h]

/-- A run starts out of reset, with nothing printed and no host fault (R345 step 4). -/
theorem step_of_start {xs : List Sample} {rest : List (List Sample)} (h : bootOp s = .start xs rest)
    (hr : s.rst = true) : step s = .next (endCall { startRun (takeInput xs rest s) with rst := false }) := by
  rw [step, fetch_of_queue_nil hq, h]
  exact exec_resetDeassert_of_held hr

end

end

/-- Settles O55: with no run in progress, in a run, and what the end of a run is. -/
theorem stepFollowsBootSequence : Obligations.StepFollowsBootSequence := by
  intro s hq
  refine ⟨fun hno => ⟨fun hin => ?_, fun xs rest hin hlen => ⟨fun hr => ?_, fun hr => ?_⟩⟩,
    fun hr hfault hhost => ?_, runEnded_iff s⟩
  · exact step_of_idle hq ((bootOp_of_no_run hno).trans (newRun_of_no_input hin))
  · exact step_of_issue hq ((bootOp_of_no_run hno).trans (newRun_of_ended hin hlen hr))
  · exact step_of_start hq ((bootOp_of_no_run hno).trans (newRun_of_held hin hlen hr)) hr
  · have hrun (h : s.outPending = 0 → s.idx.toNat < s.samples.length) : runEnded s = false :=
      (not_runEnded_iff hr).mpr ⟨hfault, hhost, h⟩
    have hpending (h : s.outPending ≠ 0) : runEnded s = false := hrun fun hnone => absurd hnone h
    refine ⟨fun ho => ?_, fun ho => ?_, fun ho x hx => ?_⟩
    · exact step_of_issue hq (bootOp_of_name hr (hpending (ho.trans_ne (by decide))) ho)
    · exact step_of_issue hq (bootOp_of_program hr (hpending (ho.trans_ne (by decide))) ho)
    · obtain ⟨hlt, _⟩ := List.getElem?_eq_some_iff.mp hx
      exact step_of_issue hq (bootOp_of_sample hr (hrun fun _ => hlt) ho hx)

/-! ## A run ends (R307, R345)

Each sample is pushed once, and what a sample raises is handled in one step: a run in progress has at most two steps for
each sample left, and one for the event that is pending. -/

theorem run_succ_of_step {M : Host.Core} {s t : M.State} (e : M.step s = .next t) (n : Nat) :
    M.run (n + 1) s = M.run n t := by
  rw [Host.Core.run, e]

/-- The most steps the run in progress can still take. -/
def stepsLeft (s : State) : Nat :=
  2 * (s.samples.length - s.idx.toNat) + if s.outPending = 0 then 0 else 1

theorem stepsLeft_le (s : State) : stepsLeft s ≤ 2 * s.samples.length + 1 := by
  unfold stepsLeft
  split <;> omega

theorem stepsLeft_le_of_no_event {s : State} (h : s.outPending = 0) : stepsLeft s ≤ 2 * s.samples.length := by
  rw [stepsLeft, if_pos h]
  omega

theorem stepsLeft_pos_of_run {s : State} (hr : s.rst = false) (h : runEnded s = false) : 0 < stepsLeft s := by
  obtain ⟨_, _, hleft⟩ := (not_runEnded_iff hr).mp h
  unfold stepsLeft
  split
  case isTrue ho =>
    have := hleft ho
    omega
  case isFalse => omega

theorem stepsLeft_lt_of_sample {s t : State} (hsamples : t.samples = s.samples) (hleft : s.idx.toNat < s.samples.length)
    (hidx : t.idx.toNat = s.idx.toNat + 1) : stepsLeft t < stepsLeft s := by
  unfold stepsLeft
  rw [hsamples, hidx]
  split <;> omega

theorem stepsLeft_lt_of_event {s t : State} (hsamples : t.samples = s.samples) (hidx : t.idx = s.idx)
    (ho : s.outPending ≠ 0) (hdone : t.outPending = 0) : stepsLeft t < stepsLeft s := by
  rw [stepsLeft, stepsLeft, hsamples, hidx, if_pos hdone, if_neg ho]
  exact Nat.lt_succ_self _

/-- The machine is in a run on `xs`, with `rest` waiting and nothing queued. -/
structure InRun (xs : List Sample) (rest : List (List Sample)) (s : State) : Prop where
  inv : MachineInv s
  queue : s.queue = []
  rst : s.rst = false
  samples : s.samples = xs
  inputs : s.inputs = rest

@[simp] theorem ackEvent_rst (s : State) : (ackEvent s).rst = s.rst := by
  rcases ackEvent_cases s with h | ⟨_, _, _, h⟩ <;> rw [h]

theorem hostOnly_rst {s t : State} (h : hostOnly s t) : t.rst = s.rst := by
  obtain ⟨⟨_, _, _, _, _, _, _, _, _, _, _, _, _, _, hrst⟩, _⟩ := h
  exact hrst

theorem bitEffect_rst {s t : State} (h : BitEffect s t) : t.rst = s.rst := by
  cases h with
  | record | raised => rfl
  | committed => exact commitBlock_rst _

/-- Only RESET_ASSERT puts the block into reset (R340, R46). -/
theorem effect_rst {i : Instr} {s t : State} (h : Effect i s t) (hrst : s.rst = false) (hi : i ≠ .resetAssert) :
    t.rst = false := by
  cases h with
  | reset hreset => exact absurd hreset hi
  | threshold _ _ _ hr => exact absurd (hrst.symm.trans hr) nofun
  | deassert => rfl
  | same | allocated | raisedBy => exact hrst
  | ack => exact (ackEvent_rst s).trans hrst
  | bit _ _ _ hb => exact (bitEffect_rst hb).trans hrst
  | sample s1 _ _ _ _ h1 _ _ _ hb =>
    have hbit := bitEffect_rst hb
    rcases h1 with ⟨rfl, _⟩ | ⟨rfl, _⟩ <;> exact hbit.trans hrst
  | host _ _ ho => exact (hostOnly_rst ho).trans hrst
  | handled u _ _ ho => exact (ackEvent_rst u).trans ((hostOnly_rst ho).trans hrst)

/-- While an event is pending it is NAME or PROGRAM: it names the last record's type (R41, R310). -/
theorem outPending_cases_of_inv {s : State} (h : MachineInv s) (ho : s.outPending ≠ 0) :
    s.outPending = 1 ∨ s.outPending = 2 := by
  obtain ⟨_, _, _, _, hevent⟩ := h.event ho
  rw [← hevent] at ho ⊢
  revert ho
  generalize (seqEntry s (s.seqLen - 1)).btype = bt
  revert bt
  decide

section
variable {xs : List Sample} {rest : List (List Sample)} {s : State}

/-- An operation other than RESET_ASSERT leaves the machine in its run. -/
theorem inRun_of_exec {t : State} (h : InRun xs rest s) {i : Instr} (e : exec i s = .next t)
    (hwf : WellFormed i = true) (hi : i ≠ .resetAssert) : InRun xs rest t := by
  obtain ⟨⟨hqueue, hsamples, hinputs⟩, _⟩ := agentsKeepToTheirState i s t e
  exact ⟨exec_keepsInv h.inv hwf t e, hqueue.trans h.queue, effect_rst (exec_effect e) h.rst hi,
    hsamples.trans h.samples, hinputs.trans h.inputs⟩

/-- The start of a run on a sequence, from reset: no event is pending, since reset leaves none. -/
theorem step_starts_run (h : MachineInv s) (hq : s.queue = []) (hr : s.rst = true) (hin : s.inputs = xs :: rest)
    (hlen : xs.length ≤ 2 ^ 32 - 1) : ∃ t, step s = .next t ∧ InRun xs rest t ∧ t.outPending = 0 := by
  refine ⟨_, step_of_start hq ((bootOp_of_no_run (.inl hr)).trans (newRun_of_held hin hlen hr)) hr,
    ⟨inv_released (inv_startRun (inv_takeInput h xs rest)), hq, rfl, rfl, rfl⟩, ?_⟩
  by_contra hne
  obtain ⟨_, hrun, _⟩ := h.event hne
  exact absurd (hr.symm.trans hrun) nofun

/-- In a run in progress a sample left to push is pushed (R345 step 5). -/
theorem step_of_sample (h : InRun xs rest s) (hlen : xs.length ≤ 2 ^ 32 - 1) (hend : runEnded s = false)
    (ho : s.outPending = 0) : ∃ t, step s = .next t ∧ InRun xs rest t ∧ stepsLeft t < stepsLeft s := by
  obtain ⟨hfault, _, hleft⟩ := (not_runEnded_iff h.rst).mp hend
  have hlt := hleft ho
  have hsmall : s.idx.toNat < 2 ^ 32 - 1 := by
    rw [h.samples] at hlt
    omega
  have hlast : s.idx ≠ 0xFFFFFFFF := fun e => by
    rw [e] at hsmall
    exact absurd hsmall (by decide)
  obtain ⟨hpush, _⟩ := blockStepsComplete s h.inv
  obtain ⟨t, e, hidx, _⟩ := hpush (s.samples[s.idx.toNat]) ⟨h.rst, hfault, ho⟩ hlast
  have hrun := inRun_of_exec h e rfl nofun
  have hstep := step_of_issue h.queue (bootOp_of_sample h.rst hend ho (List.getElem?_eq_getElem hlt))
  exact ⟨t, hstep.trans e, hrun, stepsLeft_lt_of_sample (hrun.samples.trans h.samples.symm) hlt hidx⟩

/-- A routine of the host that clears the pending event brings the end of the run nearer. -/
theorem stepsLeft_lt_of_handled {t : State} {i : Instr} (h : InRun xs rest s) (h' : InRun xs rest t)
    (e : exec i s = .next t) (hi : i = .onName ∨ i = .reconstruct) (ho : s.outPending ≠ 0)
    (hdone : t.outPending = 0) : stepsLeft t < stepsLeft s := by
  refine stepsLeft_lt_of_event (h'.samples.trans h.samples.symm) ?_ ho hdone
  have hcursor := cursorAdvancesByOne i s t e
  rcases hi with rfl | rfl <;> exact hcursor

/-- In a run in progress a pending event is handled: NAME is, and PROGRAM is or ends the run by a host fault (R231,
R232, R304). -/
theorem step_of_event (h : InRun xs rest s) (hend : runEnded s = false) (ho : s.outPending ≠ 0) :
    ∃ t, step s = .next t ∧ InRun xs rest t ∧ (runEnded t = true ∨ stepsLeft t < stepsLeft s) := by
  obtain ⟨hfault, hhost, _⟩ := (not_runEnded_iff h.rst).mp hend
  obtain ⟨_, _, _, hstore, _⟩ := h.inv.event ho
  rcases outPending_cases_of_inv h.inv ho with hname | hprogram
  · obtain ⟨e, _⟩ := onNamePrintsHeader s h.rst hfault hname hhost hstore
    have hrun := inRun_of_exec h e rfl nofun
    have hstep := step_of_issue h.queue (bootOp_of_name h.rst hend hname)
    exact ⟨_, hstep.trans e, hrun, .inr (stepsLeft_lt_of_handled h hrun e (.inl rfl) ho rfl)⟩
  · obtain ⟨t, e, _, _, _, hout⟩ := reconstructEndsOrFaults s h.rst hfault ⟨hprogram, hhost⟩
    have hrun := inRun_of_exec h e rfl nofun
    have hstep := step_of_issue h.queue (bootOp_of_program h.rst hend hprogram)
    refine ⟨t, hstep.trans e, hrun, ?_⟩
    rcases hout with ⟨_, hdone, _⟩ | ⟨hfaulted, _⟩
    · exact .inr (stepsLeft_lt_of_handled h hrun e (.inr rfl) ho hdone)
    · exact .inl ((runEnded_iff t).mpr ⟨hrun.rst, .inr (.inl hfaulted)⟩)

/-- Every step of a run in progress ends it or brings its end nearer. -/
theorem step_of_run (h : InRun xs rest s) (hlen : xs.length ≤ 2 ^ 32 - 1) (hend : runEnded s = false) :
    ∃ t, step s = .next t ∧ InRun xs rest t ∧ (runEnded t = true ∨ stepsLeft t < stepsLeft s) := by
  by_cases ho : s.outPending = 0
  · obtain ⟨t, e, hrun, hlt⟩ := step_of_sample h hlen hend ho
    exact ⟨t, e, hrun, .inr hlt⟩
  · exact step_of_event h hend ho

/-- A run ends within the steps it can still take, by recursion on them. -/
theorem run_ends_within_stepsLeft (hlen : xs.length ≤ 2 ^ 32 - 1) (s : State) (h : InRun xs rest s) :
    ∃ n t, n ≤ stepsLeft s ∧ Sys2Proof.core.run n s = .next t ∧ InRun xs rest t ∧ runEnded t = true := by
  cases hend : runEnded s with
  | true => exact ⟨0, s, Nat.zero_le _, rfl, h, hend⟩
  | false =>
    obtain ⟨t, e, hrun, hended | hlt⟩ := step_of_run h hlen hend
    · exact ⟨1, t, stepsLeft_pos_of_run h.rst hend, run_succ_of_step (M := core) e 0, hrun, hended⟩
    · obtain ⟨n, u, hn, hsteps, hu, hended⟩ := run_ends_within_stepsLeft hlen t hrun
      exact ⟨n + 1, u, by omega, (run_succ_of_step (M := core) e n).trans hsteps, hu, hended⟩
termination_by stepsLeft s

end

/-- Settles O60: from reset one step starts the run, with no event pending; one in progress is bounded as it stands. -/
theorem runEnds : Obligations.RunEnds := by
  intro s xs rest h hq hlen
  refine ⟨fun hr hin => ?_, fun hr hsamples => ?_⟩
  · obtain ⟨t, e, hrun, ho⟩ := step_starts_run h hq hr hin hlen
    obtain ⟨n, u, hn, hsteps, hu, hended⟩ := run_ends_within_stepsLeft hlen t hrun
    have hbound := stepsLeft_le_of_no_event ho
    rw [hrun.samples] at hbound
    exact ⟨n + 1, u, by omega, (run_succ_of_step (M := core) e n).trans hsteps, hu.samples, hu.inputs, hended⟩
  · obtain ⟨n, u, hn, hsteps, hu, hended⟩ := run_ends_within_stepsLeft hlen s ⟨h, hq, hr, hsamples, rfl⟩
    have hbound := stepsLeft_le s
    rw [hsamples] at hbound
    exact ⟨n, u, hn.trans hbound, hsteps, hu.samples, hu.inputs, hended⟩

end Machine
end Sys2Proof
